-- ==== Sys2Proof/Config.lean ====
section
/-! DEFINITION. The implementation parameters of `00_scope.md` R8. The one parameter R8 leaves open, `HAS_MARKERS`, is a
field of State (log entry 4), so that a statement covers both of its values. -/

namespace Sys2Proof.Config

/-- `STUFF_RUN`: the run length that calls for a stuff bit. -/
@[simp] abbrev stuffRun : BitVec 4 := 5

/-- The saturation value of `runLength` (`W_RUN`). -/
@[simp] abbrev runMax : BitVec 4 := 15

/-- `ID_BASE_BITS`. -/
@[simp] abbrev idBaseBits : Nat := 11

/-- `ID_EXT_BITS`. -/
@[simp] abbrev idExtBits : Nat := 18

/-- `DLC_BITS`. -/
@[simp] abbrev dlcBits : Nat := 4

/-- `MAX_DATA_BYTES`. -/
@[simp] abbrev maxDataBytes : Nat := 8

/-- `CRC_BITS`. -/
@[simp] abbrev crcBits : Nat := 15

/-- `CRC_POLY`. -/
@[simp] abbrev crcPoly : BitVec 15 := 0x4599

/-- `EOF_BITS`. -/
@[simp] abbrev eofBits : Nat := 7

/-- `IFS_BITS`. -/
@[simp] abbrev ifsBits : Nat := 3

/-- `RECOVERY_BITS`. -/
@[simp] abbrev recoveryBits : BitVec 4 := 11

/-- `BITRATE_MIN`, in hertz. -/
@[simp] abbrev bitRateMin : Nat := 1

/-- `BITRATE_MAX`, in hertz. -/
@[simp] abbrev bitRateMax : Nat := 1000000

/-- `MIN_RATIO`, the least `deviceSampleRateHz / bitRateHz`. -/
@[simp] abbrev minRatio : Nat := 5

end Sys2Proof.Config
end

