-- ==== Sys2Proof/Word.lean ====
section
/-! DEFINITION. The words of the block: a bus bit, a sample number, and what is handed from one component to the next.
Bit values: `00_scope.md` R11; sample numbers: R14; BitEvents: R16. -/

namespace Sys2Proof

/-- The value of one bus bit: `true` is recessive (numeric value 1), `false` is dominant (0). R11. -/
abbrev Bit := Bool

/-- An electrical level before polarity normalisation: `true` is high (1), `false` is low (0). R86. -/
abbrev Level := Bool

/-- A sample number, 64 bits, unsigned. R8 (`W_SAMPLE`), R14. -/
abbrev Sample := BitVec 64

/-- One word of the CMD port. R81. -/
abbrev CmdWord := BitVec 132

end Sys2Proof
end

