-- ==== Sys2Proof/Syntax.lean ====
section
/-! DEFINITION. The instructions: one constructor for each row of `opcode_table.json`. The commands carry the fields of
their word, ignored payload included, so that no bit is lost; a de-stuffer case and a state handler carry the BitEvent
they consume, its value `b` and its sample number `n`. Where a handler stands in the frame is not an operand: it is the
position (`state`, `fieldBitIndex`), which plays the program counter (`10_state.md` R33). -/

namespace Sys2Proof

inductive Instr where
  -- Format CMD132: the commands of the CMD port.
  /-- NOP (R83, R122). -/
  | nop (payload : BitVec 129)
  /-- RESET (R84, R123). -/
  | reset (payload : BitVec 129)
  /-- CONFIG (R85, R124). -/
  | config (reserved : BitVec 76) (inverted : Bool) (deviceSampleRateHz : BitVec 32) (bitRateHz : BitVec 20)
  /-- SEG (R86, R125, R140). -/
  | seg (level : Level) (startSample nextEdgeSample : Sample)
  /-- A reserved opcode, 100 to 111 (R87, R126). -/
  | reservedOp (op : BitVec 3) (payload : BitVec 129)
  -- Format DESTUFF_CASE: the cases of `ProcessBitEvent` (R160).
  /-- The bit goes to `ErrorBit` (R160, R245). -/
  | dsErrorbit (b : Bit) (n : Sample)
  /-- INACTIVE (R161). -/
  | dsInactive (b : Bit) (n : Sample)
  /-- STUFF_BIT (R162). -/
  | dsStuffBit (b : Bit) (n : Sample)
  /-- VIOLATION (R163). -/
  | dsViolation (b : Bit) (n : Sample)
  /-- SAME (R164). -/
  | dsSame (b : Bit) (n : Sample)
  /-- CHANGE (R165). -/
  | dsChange (b : Bit) (n : Sample)
  -- Format STATE_HANDLER: the handlers of the Frame Field State Machine (R180).
  /-- IDLE (R182). -/
  | idle (b : Bit) (n : Sample)
  /-- IDENTIFIER, index 0 to 10 (R183). -/
  | identifierId (b : Bit) (n : Sample)
  /-- IDENTIFIER, index 11 (R184). -/
  | identifierRtr (b : Bit) (n : Sample)
  /-- IDENTIFIER, index 12 (R185). -/
  | identifierIde (b : Bit) (n : Sample)
  /-- EXT_IDENTIFIER, index 0 to 17 (R186). -/
  | extIdentifierId (b : Bit) (n : Sample)
  /-- EXT_IDENTIFIER, index 18 (R187). -/
  | extIdentifierRtr (b : Bit) (n : Sample)
  /-- EXT_IDENTIFIER, index 19 (R188). -/
  | extIdentifierR1 (b : Bit) (n : Sample)
  /-- CONTROL, index 0 (R189). -/
  | controlR0 (b : Bit) (n : Sample)
  /-- CONTROL, index 1 to 3 (R190). -/
  | controlDlc (b : Bit) (n : Sample)
  /-- CONTROL, index 4 (R191). -/
  | controlDlcLast (b : Bit) (n : Sample)
  /-- DATA (R192). -/
  | data (b : Bit) (n : Sample)
  /-- CRC15, index 0 to 13 (R193). -/
  | crc15Bits (b : Bit) (n : Sample)
  /-- CRC15, index 14 (R194). -/
  | crc15Last (b : Bit) (n : Sample)
  /-- CRC_DELIMITER (R195). -/
  | crcDelimiter (b : Bit) (n : Sample)
  /-- ACK, index 0 (R196). -/
  | ackSlot (b : Bit) (n : Sample)
  /-- ACK, index 1 (R197). -/
  | ackDelimiter (b : Bit) (n : Sample)
  /-- END_OF_FRAME (R198). -/
  | endOfFrame (b : Bit) (n : Sample)
  /-- INTERMISSION (R199). -/
  | intermission (b : Bit) (n : Sample)
  /-- DECODER_ERROR (R245, R246). -/
  | decoderError (b : Bit) (n : Sample)
  /-- State code 11, written by no rule (R204). -/
  | stateUnreachable11 (b : Bit) (n : Sample)
  /-- State codes 12 to 15, written by no rule (R204). -/
  | stateUnreachable12To15 (code : BitVec 4) (b : Bit) (n : Sample)
  deriving DecidableEq, Repr

end Sys2Proof
end

