-- ==== Sys2Proof/WellFormed.lean ====
section
/-! DEFINITION. Which terms of `Instr` spell an instruction: the two operands whose type is wider than what the row
admits. A CONFIG with a nonzero reserved field IS a command (it is refused when it runs, `40_host_commands.md` R124), so it
is well formed. -/

namespace Sys2Proof

/-- A reserved opcode is one of 100 to 111 (`30_encoding.md` R82); a state code of the row 11xx is one of 12 to 15
(`43_frame_fsm.md` R204). Every other term is well formed. -/
def Instr.wellFormed : Instr → Bool
  | .reservedOp op _ => 4 ≤ op.toNat
  | .stateUnreachable12To15 code _ _ => 12 ≤ code.toNat
  | .nop _ | .reset _ | .config _ _ _ _ | .seg _ _ _
  | .dsErrorbit _ _ | .dsInactive _ _ | .dsStuffBit _ _ | .dsViolation _ _ | .dsSame _ _ | .dsChange _ _
  | .idle _ _ | .identifierId _ _ | .identifierRtr _ _ | .identifierIde _ _
  | .extIdentifierId _ _ | .extIdentifierRtr _ _ | .extIdentifierR1 _ _
  | .controlR0 _ _ | .controlDlc _ _ | .controlDlcLast _ _ | .data _ _ | .crc15Bits _ _ | .crc15Last _ _
  | .crcDelimiter _ _ | .ackSlot _ _ | .ackDelimiter _ _ | .endOfFrame _ _ | .intermission _ _
  | .decoderError _ _ | .stateUnreachable11 _ _ => true

end Sys2Proof
end

