-- ==== Sys2Proof/Decode.lean ====
section
/-! DEFINITION. Decoding and encoding, from `30_encoding.md` R81 to R87 (commands), `42_destuffer.md` R160 (de-stuffer
cases) and `43_frame_fsm.md` R180, R203 (state handlers). The block selects an instruction in three ways, one for each
format of `opcode_table.json`; `FetchWord` is what each of the three looks at. -/

namespace Sys2Proof

/-- What the block looks at to select its next instruction. -/
inductive FetchWord where
  /-- A word taken from the CMD port (R81). -/
  | cmd (w : CmdWord)
  /-- A BitEvent at the De-stuffer with the key bits `e a f q`, high to low (R160). -/
  | destuff (key : BitVec 4) (b : Bit) (n : Sample)
  /-- A logical bit at the Frame Field State Machine with the position it is consumed at (R180, R33). -/
  | handler (code : BitVec 4) (index : BitVec 7) (b : Bit) (n : Sample)
  deriving DecidableEq, Repr

/-- Why no instruction stands at a FetchWord. -/
inductive DecodeError where
  /-- The index lies outside the state's range (`10_state.md` R32, `43_frame_fsm.md` R204). -/
  | unreachableIndex (code : BitVec 4) (index : BitVec 7)
  deriving DecidableEq, Repr

/-! ## Commands -/

/-- The opcode, `CMD[131:129]`. R81. -/
def opcodeOf (w : CmdWord) : BitVec 3 := w.extractLsb' 129 3

/-- The payload, `CMD[128:0]`. R81. -/
def payloadOf (w : CmdWord) : BitVec 129 := w.extractLsb' 0 129

/-- CONFIG's fields: reserved 128:53, inverted 52, deviceSampleRateHz 51:20, bitRateHz 19:0. R85. -/
def decodeConfig (w : CmdWord) : Instr :=
  .config (w.extractLsb' 53 76) (w.getLsbD 52) (w.extractLsb' 20 32) (w.extractLsb' 0 20)

/-- SEG's fields: level 128, startSample 127:64, nextEdgeSample 63:0. R86. -/
def decodeSeg (w : CmdWord) : Instr :=
  .seg (w.getLsbD 128) (w.extractLsb' 64 64) (w.extractLsb' 0 64)

/-- The decoder of command words is total: every 132-bit word is one command. R82, R87. -/
def decodeCommand (w : CmdWord) : Instr :=
  if opcodeOf w = 0b000 then .nop (payloadOf w)
  else if opcodeOf w = 0b001 then .reset (payloadOf w)
  else if opcodeOf w = 0b010 then decodeConfig w
  else if opcodeOf w = 0b011 then decodeSeg w
  else .reservedOp (opcodeOf w) (payloadOf w)

/-! ## De-stuffer cases -/

/-- The case selected by the key `e a f q`: `e` the state is DECODER_ERROR, `a` destuffActive, `f` runLength is 5, `q` the
bit equals lastBit. The keys 1xxx, 00xx, 0110, 0111, 0101, 0100 are all there are. R160. -/
def decodeDestuff (key : BitVec 4) (b : Bit) (n : Sample) : Instr :=
  if key.getLsbD 3 then .dsErrorbit b n
  else if key.getLsbD 2 = false then .dsInactive b n
  else if key.getLsbD 1 then (if key.getLsbD 0 then .dsViolation b n else .dsStuffBit b n)
  else (if key.getLsbD 0 then .dsSame b n else .dsChange b n)

/-! ## State handlers -/

/-- The handler at a position. The index ranges are those of `10_state.md` R32; DATA's further bound by `dataLen` is not in
the key and is checked by the handler (R192). -/
def decodeHandler (code : BitVec 4) (index : BitVec 7) (b : Bit) (n : Sample) : Except DecodeError Instr :=
  let i := index.toNat
  let outside : Except DecodeError Instr := .error (.unreachableIndex code index)
  match code.toNat with
  | 0 => if i = 0 then .ok (.idle b n) else outside
  | 1 => if i ≤ 10 then .ok (.identifierId b n)
         else if i = 11 then .ok (.identifierRtr b n)
         else if i = 12 then .ok (.identifierIde b n) else outside
  | 2 => if i ≤ 17 then .ok (.extIdentifierId b n)
         else if i = 18 then .ok (.extIdentifierRtr b n)
         else if i = 19 then .ok (.extIdentifierR1 b n) else outside
  | 3 => if i = 0 then .ok (.controlR0 b n)
         else if i ≤ 3 then .ok (.controlDlc b n)
         else if i = 4 then .ok (.controlDlcLast b n) else outside
  | 4 => if i ≤ 63 then .ok (.data b n) else outside
  | 5 => if i ≤ 13 then .ok (.crc15Bits b n)
         else if i = 14 then .ok (.crc15Last b n) else outside
  | 6 => if i = 0 then .ok (.crcDelimiter b n) else outside
  | 7 => if i = 0 then .ok (.ackSlot b n)
         else if i = 1 then .ok (.ackDelimiter b n) else outside
  | 8 => if i ≤ 6 then .ok (.endOfFrame b n) else outside
  | 9 => if i ≤ 2 then .ok (.intermission b n) else outside
  | 10 => if i = 0 then .ok (.decoderError b n) else outside
  | 11 => .ok (.stateUnreachable11 b n)
  | _ => .ok (.stateUnreachable12To15 code b n)

/-! ## The decoder and the encoder -/

/-- The instruction at a FetchWord, or why there is none. Total. -/
def decode : FetchWord → Except DecodeError Instr
  | .cmd w => .ok (decodeCommand w)
  | .destuff key b n => .ok (decodeDestuff key b n)
  | .handler code index b n => decodeHandler code index b n

/-- A command word from its opcode and payload. R81. -/
def commandWord (op : BitVec 3) (payload : BitVec 129) : CmdWord := (op ++ payload : BitVec (3 + 129))

/-- CONFIG's payload. R85. -/
def configPayload (reserved : BitVec 76) (inverted : Bool) (rate : BitVec 32) (bitRate : BitVec 20) : BitVec 129 :=
  (reserved ++ (BitVec.ofBool inverted ++ (rate ++ bitRate)) : BitVec (76 + (1 + (32 + 20))))

/-- SEG's payload. R86. -/
def segPayload (level : Level) (startSample nextEdgeSample : Sample) : BitVec 129 :=
  (BitVec.ofBool level ++ (startSample ++ nextEdgeSample) : BitVec (1 + (64 + 64)))

/-- The encoder. A command has one word. A de-stuffer case or a handler is encoded at the lowest key or index of its row
(its don't-care bits 0); where in the row it runs is the machine's position, not an operand (log entry 15). -/
def encode : Instr → FetchWord
  | .nop p => .cmd (commandWord 0b000 p)
  | .reset p => .cmd (commandWord 0b001 p)
  | .config z i s r => .cmd (commandWord 0b010 (configPayload z i s r))
  | .seg l a e => .cmd (commandWord 0b011 (segPayload l a e))
  | .reservedOp op p => .cmd (commandWord op p)
  | .dsErrorbit b n => .destuff 0b1000 b n
  | .dsInactive b n => .destuff 0b0000 b n
  | .dsStuffBit b n => .destuff 0b0110 b n
  | .dsViolation b n => .destuff 0b0111 b n
  | .dsSame b n => .destuff 0b0101 b n
  | .dsChange b n => .destuff 0b0100 b n
  | .idle b n => .handler 0 0 b n
  | .identifierId b n => .handler 1 0 b n
  | .identifierRtr b n => .handler 1 11 b n
  | .identifierIde b n => .handler 1 12 b n
  | .extIdentifierId b n => .handler 2 0 b n
  | .extIdentifierRtr b n => .handler 2 18 b n
  | .extIdentifierR1 b n => .handler 2 19 b n
  | .controlR0 b n => .handler 3 0 b n
  | .controlDlc b n => .handler 3 1 b n
  | .controlDlcLast b n => .handler 3 4 b n
  | .data b n => .handler 4 0 b n
  | .crc15Bits b n => .handler 5 0 b n
  | .crc15Last b n => .handler 5 14 b n
  | .crcDelimiter b n => .handler 6 0 b n
  | .ackSlot b n => .handler 7 0 b n
  | .ackDelimiter b n => .handler 7 1 b n
  | .endOfFrame b n => .handler 8 0 b n
  | .intermission b n => .handler 9 0 b n
  | .decoderError b n => .handler 10 0 b n
  | .stateUnreachable11 b n => .handler 11 0 b n
  | .stateUnreachable12To15 code b n => .handler code 0 b n

/-! ## Words as opcode_table.json numbers them -/

/-- The widest word that is read as a bare 4-bit key (a row of 4 bits in whole bytes). -/
def keyBits : Nat := 8

/-- The instruction the decoder reads from a table word. A word of at most 8 bits is a state code (format STATE_HANDLER)
with every operand bit zero: index 0, a dominant bit, sample number 0. The format DESTUFF_CASE uses the same sixteen
words, so a bare word cannot select its rows (log entry 10). A longer word is a command of 132 bits. -/
def decodeTableWord (nbits w : Nat) : Option Instr :=
  if nbits ≤ keyBits then
    if w < 16 then (decode (.handler (BitVec.ofNat 4 w) 0 false 0)).toOption else none
  else if w < 2 ^ 132 then (decode (.cmd (BitVec.ofNat 132 w))).toOption
  else none

end Sys2Proof
end

