-- ==== Sys2Proof/Machine/State.lean ====
section
/-! DEFINITION. The state of the block (`10_state.md`), what its ports carry (`20_memory.md` R61), its reset, and why a step
can stop. -/

namespace Sys2Proof.Machine

/-! ## Code spaces -/

/-- `mode` (R25). Code 3 is never taken and is not representable (log entry 8). -/
inductive Mode where
  | unconfigured | run | fault
  deriving DecidableEq, Repr

/-- `faultCode` (R26, `40_host_commands.md` R121). Code 7 is never taken and is not representable (log entry 8). -/
inductive FaultCode where
  | none | reservedOp | configReservedBits | configBitrateRange | configSamplingRatio | segNotConfigured | segOrder
  deriving DecidableEq, Repr

/-- `errCause` (R27, `60_exceptions.md` R262). Codes 9 to 15 are never written and are not representable (log entry 8). -/
inductive Cause where
  | none | stuff | formR1 | formR0 | crcMismatch | formCrcDelimiter | formAckDelimiter | formEof | formIntermission
  deriving DecidableEq, Repr

/-- `state`, a FrameFieldState (R31): all sixteen codes of the 4-bit register. No rule writes the last five
(`43_frame_fsm.md` R204); they are held so that the rows STATE_UNREACHABLE of the opcode table have something to be about
(log entry 5). -/
inductive FieldState where
  | idle | identifier | extIdentifier | control | data | crc15 | crcDelimiter | ack | endOfFrame | intermission
  | decoderError | unused11 | unused12 | unused13 | unused14 | unused15
  deriving DecidableEq, Repr

/-- The kind of a Frame record (`30_encoding.md` R97). Codes 9 to 15 are never emitted and are not representable. -/
inductive RecordKind where
  | standardIdentifier | extendedIdentifier | control | dataByte | crc | ack | eof | intermission | decodeError
  deriving DecidableEq, Repr

/-- The class of a marker (`30_encoding.md` R105). Code 7 is never emitted and is not representable. -/
inductive MarkerClass where
  | normal | stuff | stuffError | dominant | recessive | frameStart | error
  deriving DecidableEq, Repr

/-! ## What the ports carry -/

/-- One element of the REC stream (`30_encoding.md` R96): kind, two payload fields, the inclusive bounds. -/
structure FrameRecord where
  kind : RecordKind
  p0 : BitVec 64
  p1 : BitVec 64
  first : Sample
  last : Sample
  deriving DecidableEq, Repr

/-- One element of the MRK stream (`30_encoding.md` R104). -/
structure Marker where
  cls : MarkerClass
  value : Bit
  sample : Sample
  deriving DecidableEq, Repr

/-! ## The data buffer -/

/-- `data[0..7]` (R49). -/
structure DataBuffer where
  d0 : BitVec 8
  d1 : BitVec 8
  d2 : BitVec 8
  d3 : BitVec 8
  d4 : BitVec 8
  d5 : BitVec 8
  d6 : BitVec 8
  d7 : BitVec 8
  deriving DecidableEq, Repr

/-- Eight zero bytes (R48, R54). -/
def DataBuffer.zero : DataBuffer := ⟨0, 0, 0, 0, 0, 0, 0, 0⟩

/-! ## The state -/

/-- Every register of `10_state.md`, then the ports and the open parameter (the model's own fields). -/
structure State where
  -- Configuration and status (§2).
  cfgBitRateHz : BitVec 20
  cfgSampleRateHz : BitVec 32
  cfgInverted : Bool
  samplesPerBit : BitVec 32
  mode : Mode
  faultCode : FaultCode
  errCause : Cause
  errStartSample : Sample
  -- Extractor (§3).
  armed : Bool
  -- Position (§4).
  state : FieldState
  fieldBitIndex : BitVec 7
  -- Flags (§5).
  destuffActive : Bool
  lastBit : Bit
  runLength : BitVec 4
  isData : Bool
  isExtended : Bool
  ackNacked : Bool
  -- Working registers (§6).
  identifier : BitVec 29
  dlc : BitVec 4
  dataLen : BitVec 4
  crc : BitVec 15
  crcSnapshot : BitVec 15
  crcRx : BitVec 15
  stuffBitCount : BitVec 64
  sofSample : Sample
  fieldStartSample : Sample
  -- Data buffer (§7).
  data : DataBuffer
  -- Ports (R61): commands not yet taken, records and markers emitted, oldest first.
  cmdIn : List CmdWord
  recOut : List FrameRecord
  mrkOut : List Marker
  -- The open parameter `HAS_MARKERS` (`00_scope.md` R8).
  hasMarkers : Bool
  deriving DecidableEq, Repr

/-- The machine after power-up: the table of R54, with nothing on the ports (`70_reset_and_hazards.md` R300, R301) and
markers present (the default of R8). -/
def State.reset : State where
  cfgBitRateHz := 0
  cfgSampleRateHz := 0
  cfgInverted := false
  samplesPerBit := 0
  mode := .unconfigured
  faultCode := .none
  errCause := .none
  errStartSample := 0
  armed := false
  state := .idle
  fieldBitIndex := 0
  destuffActive := false
  lastBit := true
  runLength := 0
  isData := true
  isExtended := false
  ackNacked := false
  identifier := 0
  dlc := 0
  dataLen := 0
  crc := 0
  crcSnapshot := 0
  crcRx := 0
  stuffBitCount := 0
  sofSample := 0
  fieldStartSample := 0
  data := .zero
  cmdIn := []
  recOut := []
  mrkOut := []
  hasMarkers := true

/-! ## Why a step can stop

A host fault and a protocol violation of the spec are NEXT states, not these. -/

/-- The faults of the model. No run from reset reaches one. -/
inductive Fault where
  /-- The handler selected is that of a state code no rule writes, 11 to 15 (`43_frame_fsm.md` R204: "a fault of the model,
  not of the block"). Raised by the meanings of STATE_UNREACHABLE_11 and STATE_UNREACHABLE_12_15. Safe. -/
  | unreachableState (code : BitVec 4)
  /-- `fieldBitIndex` lies outside the range `10_state.md` R32 gives the state (R204). Raised by the dispatch of a forwarded
  bit and by the meaning of DATA. Safe. -/
  | unreachableIndex (state : FieldState) (index : BitVec 7)
  /-- A segment is extracted with `samplesPerBit` 0, where R142 would divide by zero; R24 says it cannot happen in mode
  RUN. Raised by the meaning of SEG. Safe. -/
  | zeroSamplesPerBit
  deriving DecidableEq, Repr

/-- The refusals of the model. -/
inductive Refusal where
  /-- An instruction without a meaning in this model. Raised by `exec` alone; no arm does so now. Safe. -/
  | notModelled (mnemonic : String)
  deriving DecidableEq, Repr

/-- What a step or a meaning answers. -/
abbrev Result := Host.Outcome State Fault Refusal

end Sys2Proof.Machine
end

