-- ==== Sys2Proof/Machine/Codes.lean ====
section
/-! DEFINITION. The numeric codes of the code spaces (`20_memory.md` R69) and the words of the output ports
(`30_encoding.md` R96 to R98, R104, R105; D24). -/

namespace Sys2Proof.Machine

/-- `10_state.md` R25. -/
def Mode.code : Mode → BitVec 2
  | .unconfigured => 0 | .run => 1 | .fault => 2

/-- `40_host_commands.md` R121. -/
def FaultCode.code : FaultCode → BitVec 3
  | .none => 0 | .reservedOp => 1 | .configReservedBits => 2 | .configBitrateRange => 3
  | .configSamplingRatio => 4 | .segNotConfigured => 5 | .segOrder => 6

/-- `60_exceptions.md` R262. -/
def Cause.code : Cause → BitVec 4
  | .none => 0 | .stuff => 1 | .formR1 => 2 | .formR0 => 3 | .crcMismatch => 4 | .formCrcDelimiter => 5
  | .formAckDelimiter => 6 | .formEof => 7 | .formIntermission => 8

/-- `10_state.md` R31. -/
def FieldState.code : FieldState → BitVec 4
  | .idle => 0 | .identifier => 1 | .extIdentifier => 2 | .control => 3 | .data => 4 | .crc15 => 5
  | .crcDelimiter => 6 | .ack => 7 | .endOfFrame => 8 | .intermission => 9 | .decoderError => 10
  | .unused11 => 11 | .unused12 => 12 | .unused13 => 13 | .unused14 => 14 | .unused15 => 15

/-- The state a code of R31 stands for. -/
def FieldState.ofCode (c : BitVec 4) : FieldState :=
  match c.toNat with
  | 0 => .idle | 1 => .identifier | 2 => .extIdentifier | 3 => .control | 4 => .data | 5 => .crc15
  | 6 => .crcDelimiter | 7 => .ack | 8 => .endOfFrame | 9 => .intermission | 10 => .decoderError
  | 11 => .unused11 | 12 => .unused12 | 13 => .unused13 | 14 => .unused14 | _ => .unused15

/-- `30_encoding.md` R97. -/
def RecordKind.code : RecordKind → BitVec 4
  | .standardIdentifier => 0 | .extendedIdentifier => 1 | .control => 2 | .dataByte => 3 | .crc => 4 | .ack => 5
  | .eof => 6 | .intermission => 7 | .decodeError => 8

/-- `30_encoding.md` R105. -/
def MarkerClass.code : MarkerClass → BitVec 3
  | .normal => 0 | .stuff => 1 | .stuffError => 2 | .dominant => 3 | .recessive => 4 | .frameStart => 5 | .error => 6

/-- The 260-bit word of a record: kind 259:256, p0 255:192, p1 191:128, start 127:64, end 63:0. R96. -/
def FrameRecord.word (r : FrameRecord) : BitVec 260 :=
  (r.kind.code ++ (r.p0 ++ (r.p1 ++ (r.first ++ r.last))) : BitVec (4 + (64 + (64 + (64 + 64)))))

/-- The 68-bit word of a marker: class 67:65, value 64, sample 63:0. R104. -/
def Marker.word (m : Marker) : BitVec 68 :=
  (m.cls.code ++ (BitVec.ofBool m.value ++ m.sample) : BitVec (3 + (1 + 64)))

end Sys2Proof.Machine
end

