-- ==== Sys2Proof/Machine/Ops.lean ====
section
/-! DEFINITION. The named operations every meaning is written over: sequencing, the two output ports, control transfer,
the idle configuration, the refusal of a command, taking a protocol violation and returning from one, and the data
buffer. -/

namespace Sys2Proof.Machine

/-! ## Sequencing -/

/-- Go on with `k` from a next state; a stop stays a stop. -/
def andThen (o : Result) (k : State → Result) : Result :=
  match o with
  | .next s => k s
  | .fault f => .fault f
  | .refused r => .refused r

/-! ## Output ports -/

/-- `EmitRec(kind, p0, p1, start, end)`: append a record to REC (`30_encoding.md` R96). -/
def emitRec (kind : RecordKind) (p0 p1 : BitVec 64) (first last : Sample) (s : State) : State :=
  { s with recOut := s.recOut ++ [⟨kind, p0, p1, first, last⟩] }

/-- `EmitMrk(class, value, sample)`: append a marker to MRK; nothing when the port is absent (`30_encoding.md` R104). -/
def emitMrk (cls : MarkerClass) (value : Bit) (sample : Sample) (s : State) : State :=
  { s with mrkOut := if s.hasMarkers then s.mrkOut ++ [⟨cls, value, sample⟩] else s.mrkOut }

/-! ## Control transfer -/

/-- `Goto(S)`: the block's only control transfer (`00_scope.md` R13, `43_frame_fsm.md` R180). -/
def goto (target : FieldState) (s : State) : State :=
  { s with state := target, fieldBitIndex := 0 }

/-- A handler that stays in its state advances the index by one (R180). -/
def stay (s : State) : State :=
  { s with fieldBitIndex := s.fieldBitIndex + 1 }

/-- `IdleConfig()` (`10_state.md` R48). It touches neither the registers of §2 nor `armed`. -/
def idleConfig (s : State) : State :=
  { s with
    state := .idle, fieldBitIndex := 0, destuffActive := false, lastBit := true, runLength := 0
    isData := true, isExtended := false, ackNacked := false
    identifier := 0, dlc := 0, dataLen := 0, crc := 0, crcSnapshot := 0, crcRx := 0
    stuffBitCount := 0, sofSample := 0, fieldStartSample := 0, data := .zero }

/-! ## Host faults -/

/-- `Refuse(code)` (`40_host_commands.md` R121). -/
def refuse (code : FaultCode) (s : State) : State :=
  { s with mode := .fault, faultCode := code }

/-- In mode FAULT every command but RESET is discarded (`40_host_commands.md` R120). -/
def unlessFault (s : State) (command : Result) : Result :=
  if s.mode = .fault then .next s else command

/-! ## Protocol violations: the block's exceptions -/

/-- `EnterError(cause, s)`, taking a fatal violation (`60_exceptions.md` R268): the one handler state is DECODER_ERROR, what
is saved is the cause and the sample number of the offending bit. -/
def enterError (cause : Cause) (n : Sample) (s : State) : State :=
  { s with
    state := .decoderError, fieldBitIndex := 0, destuffActive := false
    errStartSample := n, errCause := cause }

/-- The return from a violation (`45_error_recovery.md` R246): the summary record, then the idle configuration. -/
def recoveryExit (n : Sample) (s : State) : State :=
  idleConfig (emitRec .decodeError 0 0 s.errStartSample n s)

/-! ## The data buffer -/

/-- Byte `k` of the buffer (R13, R49). -/
def DataBuffer.get (d : DataBuffer) (k : Fin 8) : BitVec 8 :=
  match k with
  | 0 => d.d0 | 1 => d.d1 | 2 => d.d2 | 3 => d.d3 | 4 => d.d4 | 5 => d.d5 | 6 => d.d6 | 7 => d.d7

/-- Write byte `k` of the buffer (R13, R49). -/
def DataBuffer.set (d : DataBuffer) (k : Fin 8) (v : BitVec 8) : DataBuffer :=
  match k with
  | 0 => { d with d0 := v } | 1 => { d with d1 := v } | 2 => { d with d2 := v } | 3 => { d with d3 := v }
  | 4 => { d with d4 := v } | 5 => { d with d5 := v } | 6 => { d with d6 := v } | 7 => { d with d7 := v }

end Sys2Proof.Machine
end

