-- ==== Sys2Proof/Machine/Operands.lean ====
section
/-! DEFINITION. Every operand form: how bits are assembled into a field, what a SEG's operands mean, which byte a data bit
belongs to, the clamped length. -/

namespace Sys2Proof.Machine

/-- Field assembly, most significant bit first: `acc <- (acc << 1) OR b`, truncated to the register's width
(`20_memory.md` R62, `30_encoding.md` R91). -/
def shiftIn {w : Nat} (acc : BitVec w) (b : Bit) : BitVec w :=
  (acc <<< 1) ||| (BitVec.ofBool b).setWidth w

/-- Polarity normalisation: `v = level XOR cfgInverted` (`41_bit_extractor.md` R141). -/
def bitValue (level : Level) (inverted : Bool) : Bit := level ^^ inverted

/-- The number of bits in a run: `floor((2·run + S) / (2·S))` (`41_bit_extractor.md` R142). -/
def bitCount (run S : Nat) : Nat := (2 * run + S) / (2 * S)

/-- The sample number of the `k`-th event of a segment, modulo 2^64 (`41_bit_extractor.md` R143). -/
def samplePoint (startSample : Sample) (samplesPerBit : BitVec 32) (k : Nat) : Sample :=
  BitVec.ofNat 64 (startSample.toNat + samplesPerBit.toNat / 2 + k * samplesPerBit.toNat)

/-- The BitEvents of a segment, in order: step 5 of `41_bit_extractor.md` R140. -/
def segmentEvents (v : Bit) (startSample nextEdgeSample : Sample) (samplesPerBit : BitVec 32) : List (Bit × Sample) :=
  (List.range (bitCount (nextEdgeSample.toNat - startSample.toNat) samplesPerBit.toNat)).map
    fun k => (v, samplePoint startSample samplesPerBit k)

/-- `k = fieldBitIndex >> 3`, the data byte an index below 64 belongs to (`43_frame_fsm.md` R192). -/
def byteIndex (index : BitVec 7) : Fin 8 := ⟨index.toNat / 8 % 8, Nat.mod_lt _ (by decide)⟩

/-- `j = fieldBitIndex AND 7`, the bit within the byte (`43_frame_fsm.md` R192). -/
abbrev bitInByte (index : BitVec 7) : Nat := index.toNat % 8

/-- `dataLen = min(dlc, 8)` (`10_state.md` R42, `43_frame_fsm.md` R191). -/
def clampLength (dlc : BitVec 4) : BitVec 4 := if dlc.toNat ≤ Config.maxDataBytes then dlc else 8

/-- A one-bit payload field, zero-extended to 64 bits (`30_encoding.md` R96). -/
def bitPayload (b : Bool) : BitVec 64 := (BitVec.ofBool b).setWidth 64

end Sys2Proof.Machine
end

