-- ==== Sys2Proof/Machine/Flags.lean ====
section
/-! DEFINITION. Every flag computation: the run tracker, the de-stuffer's case, the frame kind, the marker class of a
fixed-polarity bit, and the CRC-15 step (`44_crc15.md`). -/

namespace Sys2Proof.Machine

/-! ## The run tracker: `runLength` and `lastBit` -/

/-- `runLength + 1`, saturating at 15 (`10_state.md` R36, `45_error_recovery.md` R245). -/
def runNext (r : BitVec 4) : BitVec 4 := if r = Config.runMax then Config.runMax else r + 1

/-- Count one more bit of the same value (`42_destuffer.md` R164). -/
def trackSame (s : State) : State := { s with runLength := runNext s.runLength }

/-- Start a run with a bit: the tracker at (1, `b`) (`42_destuffer.md` R162, R165; `43_frame_fsm.md` R182, R197). -/
def trackRestart (b : Bit) (s : State) : State := { s with runLength := 1, lastBit := b }

/-- Track one raw bit "exactly as in de-stuffing" (`45_error_recovery.md` R245, step 2). -/
def trackRaw (b : Bit) (s : State) : State := if b = s.lastBit then trackSame s else trackRestart b s

/-! ## The de-stuffer's key -/

/-- The key bits `e a f q` the De-stuffer dispatches on (`42_destuffer.md` R160, format DESTUFF_CASE). -/
def destuffKey (s : State) (b : Bit) : BitVec 4 :=
  (BitVec.ofBool (s.state = .decoderError) ++ (BitVec.ofBool s.destuffActive ++
    (BitVec.ofBool (s.runLength = Config.stuffRun) ++ BitVec.ofBool (b = s.lastBit))) : BitVec (1 + (1 + (1 + 1))))

/-! ## Frame kind and marker class -/

/-- `isData <- (b = dominant)`, "recessive = remote" (`10_state.md` R37). -/
def kindOfRtr (b : Bit) : Bool := !b

/-- DOMINANT or RECESSIVE, by value (`43_frame_fsm.md` R202). -/
def polarityClass (b : Bit) : MarkerClass := if b then .recessive else .dominant

/-! ## CRC-15 -/

/-- `CrcFeed(c, b)`: shift left by one, and XOR the polynomial when the bit differs from bit 14 before the shift
(`44_crc15.md` R230). -/
def crcFeed (c : BitVec 15) (b : Bit) : BitVec 15 :=
  if b ^^ c.getLsbD 14 then (c <<< 1) ^^^ Config.crcPoly else c <<< 1

/-- Feed a sequence of bits, first bit first. -/
def crcFeedAll (c : BitVec 15) (bits : List Bit) : BitVec 15 := bits.foldl crcFeed c

/-- The states in which `Forward` feeds the engine (`43_frame_fsm.md` R180, `44_crc15.md` R231). -/
def crcIsFed : FieldState → Bool
  | .identifier | .extIdentifier | .control | .data | .crc15 => true
  | .idle | .crcDelimiter | .ack | .endOfFrame | .intermission | .decoderError
  | .unused11 | .unused12 | .unused13 | .unused14 | .unused15 => false

/-- Step 1 of `Forward` (R180). -/
def feedForward (b : Bit) (s : State) : State :=
  if crcIsFed s.state then { s with crc := crcFeed s.crc b } else s

end Sys2Proof.Machine
end

