-- ==== Sys2Proof/Machine/ErrorRecovery.lean ====
section
/-! DEFINITION. The Error Recovery Controller, state DECODER_ERROR (`45_error_recovery.md`). -/

namespace Sys2Proof.Machine

/-- DECODER_ERROR: `ErrorBit(b, s)`. One ERROR marker, the run tracked on raw bits, and the exit at the eleventh
consecutive recessive bit (R245, R246). -/
def execDecoderError (b : Bit) (n : Sample) (s : State) : Result :=
  let s₂ := trackRaw b (emitMrk .error b n s)
  if s₂.lastBit = true ∧ Config.recoveryBits ≤ s₂.runLength then .next (recoveryExit n s₂) else .next s₂

end Sys2Proof.Machine
end

