-- ==== Sys2Proof/Machine/FrameFsm.lean ====
section
/-! DEFINITION. The Frame Field State Machine (`43_frame_fsm.md`): one meaning for each handler row, and `Forward`. A
meaning is the body of its rule; which handler runs is decided by the position (log entry 9). -/

namespace Sys2Proof.Machine

/-! ## IDLE -/

/-- IDLE: a recessive bit does nothing; a dominant bit is Start-Of-Frame (R182). -/
def execIdle (b : Bit) (n : Sample) (s : State) : Result :=
  if b then .next s
  else
    .next (emitMrk .frameStart false n (goto .identifier
      { trackRestart false (idleConfig s) with
        sofSample := n, destuffActive := true, crc := crcFeed 0 false }))

/-! ## IDENTIFIER -/

/-- IDENTIFIER, index 0 to 10: an identifier bit (R183). -/
def execIdentifierId (b : Bit) (n : Sample) (s : State) : Result :=
  .next (emitMrk .normal b n (stay
    { s with
      fieldStartSample := if s.fieldBitIndex = 0 then n else s.fieldStartSample
      identifier := shiftIn s.identifier b }))

/-- IDENTIFIER, index 11: RTR, provisional in an extended frame (R184). -/
def execIdentifierRtr (b : Bit) (n : Sample) (s : State) : Result :=
  .next (emitMrk (polarityClass b) b n { s with isData := kindOfRtr b, fieldBitIndex := 12 })

/-- IDENTIFIER, index 12: IDE selects the format (R185). -/
def execIdentifierIde (b : Bit) (n : Sample) (s : State) : Result :=
  let s₁ := emitMrk (polarityClass b) b n s
  if b then .next (goto .extIdentifier { s₁ with isExtended := true })
  else
    .next (goto .control (emitRec .standardIdentifier
      ((s.identifier.extractLsb' 0 11).setWidth 64) (bitPayload s.isData) s.fieldStartSample n s₁))

/-! ## EXT_IDENTIFIER -/

/-- EXT_IDENTIFIER, index 0 to 17: an identifier bit (R186). -/
def execExtIdentifierId (b : Bit) (n : Sample) (s : State) : Result :=
  .next (emitMrk .normal b n (stay { s with identifier := shiftIn s.identifier b }))

/-- EXT_IDENTIFIER, index 18: RTR, which overrides the frame kind (R187). -/
def execExtIdentifierRtr (b : Bit) (n : Sample) (s : State) : Result :=
  .next (emitMrk (polarityClass b) b n { s with isData := kindOfRtr b, fieldBitIndex := 19 })

/-- EXT_IDENTIFIER, index 19: R1 must be dominant; recessive is the violation FORM_R1 (R188, `60_exceptions.md` R264). -/
def execExtIdentifierR1 (b : Bit) (n : Sample) (s : State) : Result :=
  if b then .next (enterError .formR1 n (emitMrk .error true n s))
  else
    .next (goto .control (emitRec .extendedIdentifier
      (s.identifier.setWidth 64) (bitPayload s.isData) s.fieldStartSample n (emitMrk .dominant false n s)))

/-! ## CONTROL -/

/-- CONTROL, index 0: R0. Recessive is flagged by a one-bit record and decoding goes on (R189, `60_exceptions.md` R265). -/
def execControlR0 (b : Bit) (n : Sample) (s : State) : Result :=
  let s₁ := { s with fieldStartSample := n, fieldBitIndex := 1 }
  if b then .next (emitRec .decodeError 0 0 n n { emitMrk .error true n s₁ with errCause := .formR0 })
  else .next (emitMrk .dominant false n s₁)

/-- CONTROL, index 1 to 3: DLC bits 3 to 1 (R190). -/
def execControlDlc (b : Bit) (n : Sample) (s : State) : Result :=
  .next (emitMrk .normal b n (stay { s with dlc := shiftIn s.dlc b }))

/-- CONTROL, index 4: DLC bit 0. The record carries the code as received; the length is clamped; the CRC, which already
holds this bit, is snapshot; a data frame with data goes to DATA (R191). -/
def execControlDlcLast (b : Bit) (n : Sample) (s : State) : Result :=
  let dlc := shiftIn s.dlc b
  let dataLen := clampLength dlc
  let s₃ := emitRec .control (dlc.setWidth 64) 0 s.fieldStartSample n (emitMrk .normal b n { s with dlc := dlc })
  .next (goto (if dataLen = 0 ∨ s.isData = false then .crc15 else .data)
    { s₃ with dataLen := dataLen, crcSnapshot := s.crc })

/-! ## DATA -/

/-- DATA, index 0 to `8 × dataLen − 1`: bytes most significant bit first, one record per byte, the CRC snapshot again after
the last (R192). An index outside that range is no position of the machine (`10_state.md` R32, R204) and stops by name. -/
def execData (b : Bit) (n : Sample) (s : State) : Result :=
  if s.fieldBitIndex.toNat < 8 * s.dataLen.toNat ∧ s.fieldBitIndex.toNat < 64 then
    let k := byteIndex s.fieldBitIndex
    let byte := shiftIn (s.data.get k) b
    let start := if bitInByte s.fieldBitIndex = 0 then n else s.fieldStartSample
    let s₁ := emitMrk .normal b n { s with fieldStartSample := start, data := s.data.set k byte }
    if bitInByte s.fieldBitIndex < 7 then .next (stay s₁)
    else
      let s₂ := emitRec .dataByte (byte.setWidth 64) (BitVec.ofNat 64 k.val) start n s₁
      if k.val + 1 = s.dataLen.toNat then .next (goto .crc15 { s₂ with crcSnapshot := s.crc })
      else .next (stay s₂)
  else .fault (.unreachableIndex s.state s.fieldBitIndex)

/-! ## CRC15 -/

/-- CRC15, index 0 to 13: a CRC bit (R193). -/
def execCrc15Bits (b : Bit) (n : Sample) (s : State) : Result :=
  .next (emitMrk .normal b n (stay
    { s with
      fieldStartSample := if s.fieldBitIndex = 0 then n else s.fieldStartSample
      crcRx := shiftIn s.crcRx b }))

/-- CRC15, index 14: the record is emitted in both cases, then the residue is judged (R194, `44_crc15.md` R233). -/
def execCrc15Last (b : Bit) (n : Sample) (s : State) : Result :=
  let crcRx := shiftIn s.crcRx b
  let s₂ := emitRec .crc (crcRx.setWidth 64) (s.crc.setWidth 64) s.fieldStartSample n { s with crcRx := crcRx }
  if s.crc ≠ 0 then .next (enterError .crcMismatch n (emitMrk .error b n s₂))
  else .next (goto .crcDelimiter (emitMrk .normal b n s₂))

/-! ## CRC_DELIMITER -/

/-- CRC_DELIMITER: de-stuffing ends here; a dominant bit is the violation FORM_CRC_DELIMITER (R195, `90_conflicts.md` C1, C2). -/
def execCrcDelimiter (b : Bit) (n : Sample) (s : State) : Result :=
  let s₁ := { s with destuffActive := false }
  if b then .next (goto .ack (emitMrk .recessive true n s₁))
  else .next (enterError .formCrcDelimiter n (emitMrk .error false n s₁))

/-! ## ACK -/

/-- ACK, index 0: the slot; recessive is not an error (R196, `60_exceptions.md` R269). -/
def execAckSlot (b : Bit) (n : Sample) (s : State) : Result :=
  .next (emitMrk (polarityClass b) b n { s with fieldStartSample := n, ackNacked := b, fieldBitIndex := 1 })

/-- ACK, index 1: the delimiter; a dominant bit is the violation FORM_ACK_DELIMITER, and the tracker restarts at it (R197,
`90_conflicts.md` C3). -/
def execAckDelimiter (b : Bit) (n : Sample) (s : State) : Result :=
  if b then
    .next (goto .endOfFrame (emitRec .ack (bitPayload s.ackNacked) 0 s.fieldStartSample n (emitMrk .recessive true n s)))
  else .next (enterError .formAckDelimiter n (trackRestart false (emitMrk .error false n s)))

/-! ## END_OF_FRAME -/

/-- END_OF_FRAME, index 0 to 6: seven recessive bits; a dominant one is the violation FORM_EOF (R198). -/
def execEndOfFrame (b : Bit) (n : Sample) (s : State) : Result :=
  let start := if s.fieldBitIndex = 0 then n else s.fieldStartSample
  let s₁ := { s with fieldStartSample := start }
  if b then
    let s₂ := emitMrk .recessive true n s₁
    if s.fieldBitIndex.toNat < Config.eofBits - 1 then .next (stay s₂)
    else .next (goto .intermission (emitRec .eof 0 0 start n s₂))
  else .next (enterError .formEof n (trackRestart false (emitMrk .error false n s₁)))

/-! ## INTERMISSION -/

/-- INTERMISSION, index 0 to 2: three recessive bits; the record carries the samples since Start-Of-Frame, modulo 2^64, and
the stuff-bit count; a dominant bit is the violation FORM_INTERMISSION (R199). -/
def execIntermission (b : Bit) (n : Sample) (s : State) : Result :=
  let start := if s.fieldBitIndex = 0 then n else s.fieldStartSample
  let s₁ := { s with fieldStartSample := start }
  if b then
    let s₂ := emitMrk .recessive true n s₁
    if s.fieldBitIndex.toNat < Config.ifsBits - 1 then .next (stay s₂)
    else .next (goto .idle (emitRec .intermission (n - s.sofSample) s.stuffBitCount start n s₂))
  else .next (enterError .formIntermission n (trackRestart false (emitMrk .error false n s₁)))

/-! ## Positions no rule produces -/

/-- State code 11 (R204): "a fault of the model, not of the block". -/
def execStateUnreachable11 (_b : Bit) (_n : Sample) (_s : State) : Result :=
  .fault (.unreachableState 11)

/-- State codes 12 to 15 (R204). -/
def execStateUnreachable12To15 (code : BitVec 4) (_b : Bit) (_n : Sample) (_s : State) : Result :=
  .fault (.unreachableState code)

/-! ## Dispatch -/

/-- Step 2 of `Forward`: run the handler of the current position (R180). The index ranges are those of `10_state.md` R32. -/
def runHandler (b : Bit) (n : Sample) (s : State) : Result :=
  let i := s.fieldBitIndex.toNat
  let outside : Result := .fault (.unreachableIndex s.state s.fieldBitIndex)
  match s.state with
  | .idle => if i = 0 then execIdle b n s else outside
  | .identifier =>
    if i ≤ 10 then execIdentifierId b n s
    else if i = 11 then execIdentifierRtr b n s
    else if i = 12 then execIdentifierIde b n s else outside
  | .extIdentifier =>
    if i ≤ 17 then execExtIdentifierId b n s
    else if i = 18 then execExtIdentifierRtr b n s
    else if i = 19 then execExtIdentifierR1 b n s else outside
  | .control =>
    if i = 0 then execControlR0 b n s
    else if i ≤ 3 then execControlDlc b n s
    else if i = 4 then execControlDlcLast b n s else outside
  | .data => if i ≤ 63 then execData b n s else outside
  | .crc15 =>
    if i ≤ 13 then execCrc15Bits b n s
    else if i = 14 then execCrc15Last b n s else outside
  | .crcDelimiter => if i = 0 then execCrcDelimiter b n s else outside
  | .ack =>
    if i = 0 then execAckSlot b n s
    else if i = 1 then execAckDelimiter b n s else outside
  | .endOfFrame => if i ≤ 6 then execEndOfFrame b n s else outside
  | .intermission => if i ≤ 2 then execIntermission b n s else outside
  | .decoderError => if i = 0 then execDecoderError b n s else outside
  | .unused11 => execStateUnreachable11 b n s
  | .unused12 => execStateUnreachable12To15 12 b n s
  | .unused13 => execStateUnreachable12To15 13 b n s
  | .unused14 => execStateUnreachable12To15 14 b n s
  | .unused15 => execStateUnreachable12To15 15 b n s

/-- `Forward(b, s)`: feed the CRC engine, then run the handler, which sees `crc` with this bit in it (R180). -/
def forward (b : Bit) (n : Sample) (s : State) : Result := runHandler b n (feedForward b s)

end Sys2Proof.Machine
end

