-- ==== Sys2Proof/Machine/Destuffer.lean ====
section
/-! DEFINITION. The Bit De-stuffer (`42_destuffer.md`): one meaning for each case, and `ProcessBitEvent`. -/

namespace Sys2Proof.Machine

/-- In DECODER_ERROR the raw bit goes to `ErrorBit` (R160, `45_error_recovery.md` R245). -/
def execDsErrorbit (b : Bit) (n : Sample) (s : State) : Result := execDecoderError b n s

/-- INACTIVE: the bit is forwarded unchanged; the tracker is not written (R161). -/
def execDsInactive (b : Bit) (n : Sample) (s : State) : Result := forward b n s

/-- STUFF_BIT: the bit is discarded and counted, and is the first of the next run (R162). -/
def execDsStuffBit (b : Bit) (n : Sample) (s : State) : Result :=
  .next (emitMrk .stuff b n { trackRestart b s with stuffBitCount := s.stuffBitCount + 1 })

/-- VIOLATION: the sixth identical bit is fatal; the count of 6 is kept for recovery (R163, `60_exceptions.md` R263). -/
def execDsViolation (b : Bit) (n : Sample) (s : State) : Result :=
  .next (enterError .stuff n (emitMrk .stuffError b n { s with runLength := 6 }))

/-- SAME: the tracker is written before the bit is forwarded (R164). -/
def execDsSame (b : Bit) (n : Sample) (s : State) : Result := forward b n (trackSame s)

/-- CHANGE: a new run begins and the bit is forwarded (R165). -/
def execDsChange (b : Bit) (n : Sample) (s : State) : Result := forward b n (trackRestart b s)

/-- `ProcessBitEvent(b, s)`: exactly one case applies (R160). -/
def processBitEvent (b : Bit) (n : Sample) (s : State) : Result :=
  if s.state = .decoderError then execDsErrorbit b n s
  else if s.destuffActive = false then execDsInactive b n s
  else if s.runLength = Config.stuffRun ∧ b ≠ s.lastBit then execDsStuffBit b n s
  else if s.runLength = Config.stuffRun ∧ b = s.lastBit then execDsViolation b n s
  else if b = s.lastBit then execDsSame b n s
  else execDsChange b n s

/-- BitEvents in order, each wholly before the next (`20_memory.md` R70, R72). -/
def processBitEvents : List (Bit × Sample) → State → Result
  | [], s => .next s
  | (b, n) :: rest, s => andThen (processBitEvent b n s) (processBitEvents rest)

end Sys2Proof.Machine
end

