-- ==== Sys2Proof/Machine/HostCommands.lean ====
section
/-! DEFINITION. The host commands (`40_host_commands.md`) and the extraction a SEG runs (`41_bit_extractor.md`). -/

namespace Sys2Proof.Machine

/-- NOP: nothing (R122). -/
def execNop (_payload : BitVec 129) (s : State) : Result := unlessFault s (.next s)

/-- RESET, in every mode: every register takes its reset value; nothing is emitted, and what was emitted stays emitted
(R123, `20_memory.md` R67). -/
def execReset (_payload : BitVec 129) (s : State) : Result :=
  .next (idleConfig
    { s with
      cfgBitRateHz := 0, cfgSampleRateHz := 0, cfgInverted := false, samplesPerBit := 0
      mode := .unconfigured, faultCode := .none
      errCause := .none, errStartSample := 0, armed := false })

/-- An accepted CONFIG begins a session (R124). -/
def configure (inverted : Bool) (rate : BitVec 32) (bitRate : BitVec 20) (s : State) : State :=
  idleConfig
    { s with
      cfgBitRateHz := bitRate, cfgSampleRateHz := rate, cfgInverted := inverted
      samplesPerBit := BitVec.ofNat 32 (rate.toNat / bitRate.toNat)
      mode := .run, errCause := .none, errStartSample := 0, armed := false }

/-- CONFIG: the checks in the order of R124. -/
def execConfig (reserved : BitVec 76) (inverted : Bool) (rate : BitVec 32) (bitRate : BitVec 20) (s : State) : Result :=
  unlessFault s
    (if reserved ≠ 0 then .next (refuse .configReservedBits s)
     else if bitRate.toNat < Config.bitRateMin ∨ Config.bitRateMax < bitRate.toNat then
       .next (refuse .configBitrateRange s)
     else if rate.toNat < Config.minRatio * bitRate.toNat then .next (refuse .configSamplingRatio s)
     else .next (configure inverted rate bitRate s))

/-- `Extract(level, startSample, nextEdgeSample)`: the first segment of a session arms the extractor and, if dominant, is
skipped; otherwise the BitEvents of the segment go to the De-stuffer one by one (`41_bit_extractor.md` R140 to R144). -/
def extract (level : Level) (startSample nextEdgeSample : Sample) (s : State) : Result :=
  let v := bitValue level s.cfgInverted
  let s₂ := { s with armed := true }
  if s.armed = false ∧ v = false then .next s₂
  else if s.samplesPerBit = 0 then .fault .zeroSamplesPerBit
  else processBitEvents (segmentEvents v startSample nextEdgeSample s.samplesPerBit) s₂

/-- SEG: admission, then extraction (R125). -/
def execSeg (level : Level) (startSample nextEdgeSample : Sample) (s : State) : Result :=
  unlessFault s
    (if s.mode ≠ .run then .next (refuse .segNotConfigured s)
     else if nextEdgeSample.toNat ≤ startSample.toNat then .next (refuse .segOrder s)
     else extract level startSample nextEdgeSample s)

/-- A reserved opcode is refused; its payload is ignored (R126). -/
def execReservedOp (_op : BitVec 3) (_payload : BitVec 129) (s : State) : Result :=
  unlessFault s (.next (refuse .reservedOp s))

end Sys2Proof.Machine
end

