-- ==== Sys2Proof/Machine/Dispatch.lean ====
section
/-! DEFINITION. The dispatch: one arm for each constructor of Instr. -/

namespace Sys2Proof.Machine

def exec (i : Instr) (s : State) : Host.Outcome State Fault Refusal :=
  match i with
  -- commands
  | .nop payload => Sys2Proof.Machine.execNop payload s
  | .reset payload => Sys2Proof.Machine.execReset payload s
  | .config reserved inverted rate bitRate => Sys2Proof.Machine.execConfig reserved inverted rate bitRate s
  | .seg level startSample nextEdgeSample => Sys2Proof.Machine.execSeg level startSample nextEdgeSample s
  | .reservedOp op payload => Sys2Proof.Machine.execReservedOp op payload s
  -- de-stuffer cases
  | .dsErrorbit b n => Sys2Proof.Machine.execDsErrorbit b n s
  | .dsInactive b n => Sys2Proof.Machine.execDsInactive b n s
  | .dsStuffBit b n => Sys2Proof.Machine.execDsStuffBit b n s
  | .dsViolation b n => Sys2Proof.Machine.execDsViolation b n s
  | .dsSame b n => Sys2Proof.Machine.execDsSame b n s
  | .dsChange b n => Sys2Proof.Machine.execDsChange b n s
  -- state handlers
  | .idle b n => Sys2Proof.Machine.execIdle b n s
  | .identifierId b n => Sys2Proof.Machine.execIdentifierId b n s
  | .identifierRtr b n => Sys2Proof.Machine.execIdentifierRtr b n s
  | .identifierIde b n => Sys2Proof.Machine.execIdentifierIde b n s
  | .extIdentifierId b n => Sys2Proof.Machine.execExtIdentifierId b n s
  | .extIdentifierRtr b n => Sys2Proof.Machine.execExtIdentifierRtr b n s
  | .extIdentifierR1 b n => Sys2Proof.Machine.execExtIdentifierR1 b n s
  | .controlR0 b n => Sys2Proof.Machine.execControlR0 b n s
  | .controlDlc b n => Sys2Proof.Machine.execControlDlc b n s
  | .controlDlcLast b n => Sys2Proof.Machine.execControlDlcLast b n s
  | .data b n => Sys2Proof.Machine.execData b n s
  | .crc15Bits b n => Sys2Proof.Machine.execCrc15Bits b n s
  | .crc15Last b n => Sys2Proof.Machine.execCrc15Last b n s
  | .crcDelimiter b n => Sys2Proof.Machine.execCrcDelimiter b n s
  | .ackSlot b n => Sys2Proof.Machine.execAckSlot b n s
  | .ackDelimiter b n => Sys2Proof.Machine.execAckDelimiter b n s
  | .endOfFrame b n => Sys2Proof.Machine.execEndOfFrame b n s
  | .intermission b n => Sys2Proof.Machine.execIntermission b n s
  | .decoderError b n => Sys2Proof.Machine.execDecoderError b n s
  | .stateUnreachable11 b n => Sys2Proof.Machine.execStateUnreachable11 b n s
  | .stateUnreachable12To15 code b n => Sys2Proof.Machine.execStateUnreachable12To15 code b n s

end Sys2Proof.Machine
end

