-- ==== Sys2Proof/Machine/Placement.lean ====
section
/-! DEFINITION. Placing a table word where the next step runs it. A 4-bit word names a state handler, and the block runs a
handler only on a BitEvent of a SEG; so the machine is put at that handler's first position, in a session whose next
command is a segment of one dominant bit with sample number 0 (log entries 10 and 11). -/

namespace Sys2Proof.Machine

/-- A command word put on CMD as the next to be taken. -/
def placeCommand (w : CmdWord) (s : State) : State := { s with cmdIn := w :: s.cmdIn }

/-- The SEG word of one dominant bit: level 0, from sample 0 to the edge at sample 1, with one sample per bit. -/
def oneDominantBit : CmdWord := commandWord 0b011 (segPayload false 0 1)

/-- The machine at the handler of a state code, about to be given one dominant bit with sample number 0. DATA has positions
only when the frame declares data, so `dataLen` becomes at least 1 there. -/
def placeHandler (code : BitVec 4) (s : State) : State :=
  placeCommand oneDominantBit
    { s with
      mode := .run, faultCode := .none, cfgInverted := false, samplesPerBit := 1, armed := true
      state := FieldState.ofCode code, fieldBitIndex := 0, destuffActive := false
      dataLen := if code = 4 ∧ s.dataLen = 0 then 1 else s.dataLen }

end Sys2Proof.Machine
end

