-- ==== Sys2Proof/Machine/Step.lean ====
section
/-! DEFINITION. One step: the block takes one command from CMD and executes it completely (`20_memory.md` R66,
`40_host_commands.md` R120). With no command waiting it waits, and nothing changes (`40_host_commands.md` R128,
`70_reset_and_hazards.md` R301). -/

namespace Sys2Proof.Machine

def step (s : State) : Host.Outcome State Fault Refusal :=
  match s.cmdIn with
  | [] => .next s
  | w :: rest => exec (decodeCommand w) { s with cmdIn := rest }

/-- `s` with a table word placed so that the very next step runs it (log entries 10 and 11). -/
def State.withFetchWord (s : State) (nbits w : Nat) : State :=
  if nbits ≤ keyBits then placeHandler (BitVec.ofNat 4 w) s
  else placeCommand (BitVec.ofNat 132 w) s

end Sys2Proof.Machine
end

