-- ==== Sys2Proof/Machine/Stat.lean ====
section
/-! DEFINITION. The STAT port (`10_state.md` R29, `20_memory.md` R61): the current value of every register, in the numeric
codes of R25, R31, R121 and R262. Reading it has no side effect: it is a function of the state. -/

namespace Sys2Proof.Machine

/-- What STAT shows. -/
structure Stat where
  cfgBitRateHz : BitVec 20
  cfgSampleRateHz : BitVec 32
  cfgInverted : BitVec 1
  samplesPerBit : BitVec 32
  mode : BitVec 2
  faultCode : BitVec 3
  errCause : BitVec 4
  errStartSample : BitVec 64
  armed : BitVec 1
  state : BitVec 4
  fieldBitIndex : BitVec 7
  destuffActive : BitVec 1
  lastBit : BitVec 1
  runLength : BitVec 4
  isData : BitVec 1
  isExtended : BitVec 1
  ackNacked : BitVec 1
  identifier : BitVec 29
  dlc : BitVec 4
  dataLen : BitVec 4
  crc : BitVec 15
  crcSnapshot : BitVec 15
  crcRx : BitVec 15
  stuffBitCount : BitVec 64
  sofSample : BitVec 64
  fieldStartSample : BitVec 64
  data : DataBuffer
  deriving DecidableEq, Repr

/-- The STAT port of a state. -/
def State.stat (s : State) : Stat where
  cfgBitRateHz := s.cfgBitRateHz
  cfgSampleRateHz := s.cfgSampleRateHz
  cfgInverted := BitVec.ofBool s.cfgInverted
  samplesPerBit := s.samplesPerBit
  mode := s.mode.code
  faultCode := s.faultCode.code
  errCause := s.errCause.code
  errStartSample := s.errStartSample
  armed := BitVec.ofBool s.armed
  state := s.state.code
  fieldBitIndex := s.fieldBitIndex
  destuffActive := BitVec.ofBool s.destuffActive
  lastBit := BitVec.ofBool s.lastBit
  runLength := s.runLength
  isData := BitVec.ofBool s.isData
  isExtended := BitVec.ofBool s.isExtended
  ackNacked := BitVec.ofBool s.ackNacked
  identifier := s.identifier
  dlc := s.dlc
  dataLen := s.dataLen
  crc := s.crc
  crcSnapshot := s.crcSnapshot
  crcRx := s.crcRx
  stuffBitCount := s.stuffBitCount
  sofSample := s.sofSample
  fieldStartSample := s.fieldStartSample
  data := s.data

end Sys2Proof.Machine
end

