-- ==== Sys2Proof/Machine/Stimulus.lean ====
section
/-! DEFINITION. The stimulus notation of `30_encoding.md` R112 to R115: the command lines, the macro `bits`, the oracle
`Encode`, and the transmitter's bit stuffing (R93). Not part of the block: a way to say what a host sends. -/

namespace Sys2Proof.Machine

/-! ## Command lines (R112) -/

/-- `nop`. -/
def asmNop : CmdWord := commandWord 0b000 0

/-- `reset`. -/
def asmReset : CmdWord := commandWord 0b001 0

/-- `config <bitRateHz>, <deviceSampleRateHz>, <inverted>`, reserved bits zero. -/
def asmConfig (bitRate : BitVec 20) (rate : BitVec 32) (inverted : Bool) : CmdWord :=
  commandWord 0b010 (configPayload 0 inverted rate bitRate)

/-- `seg <level>, <startSample>, <nextEdgeSample>`. -/
def asmSeg (level : Level) (startSample nextEdgeSample : Sample) : CmdWord :=
  commandWord 0b011 (segPayload level startSample nextEdgeSample)

/-! ## Bit strings (R113, R114) -/

/-- The maximal runs of a bit string, in order: value and length. -/
def runsOf : List Bit → List (Bit × Nat)
  | [] => []
  | b :: rest =>
    match runsOf rest with
    | (v, m) :: more => if v = b then (v, m + 1) :: more else (b, 1) :: (v, m) :: more
    | [] => [(b, 1)]

/-- The segments of runs that begin at sample `t`, with `S` samples per bit. -/
def segsOfRuns (S : Nat) (inverted : Bool) : Nat → List (Bit × Nat) → List CmdWord
  | _, [] => []
  | t, (v, m) :: rest =>
    asmSeg (v ^^ inverted) (BitVec.ofNat 64 t) (BitVec.ofNat 64 (t + m * S)) :: segsOfRuns S inverted (t + m * S) rest

/-- `bits <t0>: <bit string>` in a session with `S` samples per bit and polarity `inverted` (R114). -/
def bitsMacro (S : Nat) (inverted : Bool) (t0 : Nat) (bits : List Bit) : List CmdWord :=
  segsOfRuns S inverted t0 (runsOf bits)

/-- The BitEvents a bit string stands for: offset `i` has sample number `t0 + i·S + floor(S/2)` (R114). -/
def eventsOf (S : Nat) : Nat → List Bit → List (Bit × Sample)
  | _, [] => []
  | t, b :: rest => (b, BitVec.ofNat 64 (t + S / 2)) :: eventsOf S (t + S) rest

/-! ## Bit stuffing (R93; step 3 of R115) -/

/-- The transmitter after a bit of value `last` that made a run of `run`: after five equal bits it inserts one bit of the
opposite value, which is the first of the next run. -/
def stuffFrom : Nat → Bit → List Bit → List Bit
  | run, last, [] => if run = 5 then [!last] else []
  | run, last, b :: rest =>
    if run = 5 then
      if b = !last then (!last) :: b :: stuffFrom 2 b rest
      else (!last) :: b :: stuffFrom 1 b rest
    else if b = last then b :: stuffFrom (run + 1) b rest
    else b :: stuffFrom 1 b rest

/-- `stuff(L)`. -/
def stuff : List Bit → List Bit
  | [] => []
  | b :: rest => b :: stuffFrom 1 b rest

/-! ## `Encode` (R115) -/

/-- The bits of a value, most significant first (R62). -/
def msbFirst {w : Nat} (v : BitVec w) : List Bit := (List.range w).map fun i => v.getLsbD (w - 1 - i)

/-- A frame as `Encode` takes it. -/
structure FrameSpec where
  id : BitVec 29
  ext : Bool
  remote : Bool
  dlc : BitVec 4
  payload : List (BitVec 8)
  ack : Bool
  deriving DecidableEq, Repr

/-- The logical bits from SOF to the last data bit, by R89 (base) or R90 (extended, the bit at position 12 recessive). The
identifier of a base frame is its low eleven bits. -/
def FrameSpec.body (f : FrameSpec) : List Bit :=
  let kind := f.remote
  let header :=
    if f.ext then
      msbFirst (f.id.extractLsb' 18 11) ++ [true, true] ++ msbFirst (f.id.extractLsb' 0 18) ++ [kind, false]
    else msbFirst (f.id.extractLsb' 0 11) ++ [kind, false]
  let n := if f.remote then 0 else (clampLength f.dlc).toNat
  [false] ++ header ++ [false] ++ msbFirst f.dlc ++ (f.payload.take n).flatMap msbFirst

/-- The CRC the transmitter sends: the engine fed with the body from 0 (step 2 of R115). -/
def FrameSpec.crc (f : FrameSpec) : BitVec 15 := crcFeedAll 0 f.body

/-- The stuffed region of the frame, stuff bits in (R93). -/
def FrameSpec.stuffed (f : FrameSpec) : List Bit := stuff (f.body ++ msbFirst f.crc)

/-- CRC delimiter, ACK slot, ACK delimiter, EOF, intermission (step 4 of R115). -/
def FrameSpec.tail (f : FrameSpec) : List Bit :=
  [true, !f.ack, true] ++ List.replicate Config.eofBits true ++ List.replicate Config.ifsBits true

/-- The wire bit string of a frame: `Encode(id, ext, remote, dlc, data, ack)`. -/
def FrameSpec.encode (f : FrameSpec) : List Bit := f.stuffed ++ f.tail

end Sys2Proof.Machine
end

