-- ==== Sys2Proof/Safety.lean ====
section
/-! DEFINITION. What counts as a safe state, and the words the statements use: the invariants of `10_state.md` §9 with the
ranges of R24 to R49, the transition table of `43_frame_fsm.md` R203, and pure views of the de-stuffer and of the
markers. -/

namespace Sys2Proof.Machine

/-! ## Positions (R32) -/

/-- How many positions a state has: `fieldBitIndex` is below this number (`10_state.md` R32). No rule writes the last five
codes (R31), so they have none. -/
def FieldState.positions (st : FieldState) (dataLen : BitVec 4) : Nat :=
  match st with
  | .idle => 1 | .identifier => 13 | .extIdentifier => 20 | .control => 5 | .data => 8 * dataLen.toNat
  | .crc15 => 15 | .crcDelimiter => 1 | .ack => 2 | .endOfFrame => 7 | .intermission => 3 | .decoderError => 1
  | .unused11 | .unused12 | .unused13 | .unused14 | .unused15 => 0

/-- The position is one some handler row covers, and no more than eight data bytes are declared (R32, R42). -/
def State.PositionLegal (s : State) : Prop :=
  s.fieldBitIndex.toNat < s.state.positions s.dataLen ∧ s.dataLen.toNat ≤ 8

/-- The six states in which de-stuffing is active (R51). -/
def stuffedRegion : FieldState → Bool
  | .identifier | .extIdentifier | .control | .data | .crc15 | .crcDelimiter => true
  | .idle | .ack | .endOfFrame | .intermission | .decoderError
  | .unused11 | .unused12 | .unused13 | .unused14 | .unused15 => false

/-- The states of a frame up to CONTROL, in which no data byte has been received. -/
def beforeData : FieldState → Bool
  | .identifier | .extIdentifier | .control => true
  | .idle | .data | .crc15 | .crcDelimiter | .ack | .endOfFrame | .intermission | .decoderError
  | .unused11 | .unused12 | .unused13 | .unused14 | .unused15 => false

/-- The states of a frame after CONTROL, in which `dataLen` is the clamped code. -/
def afterControl : FieldState → Bool
  | .data | .crc15 | .crcDelimiter | .ack | .endOfFrame | .intermission => true
  | .idle | .identifier | .extIdentifier | .control | .decoderError
  | .unused11 | .unused12 | .unused13 | .unused14 | .unused15 => false

/-- The states of a frame after a CRC sequence was accepted. -/
def afterCrc : FieldState → Bool
  | .crcDelimiter | .ack | .endOfFrame | .intermission => true
  | .idle | .identifier | .extIdentifier | .control | .data | .crc15 | .decoderError
  | .unused11 | .unused12 | .unused13 | .unused14 | .unused15 => false

/-! ## Configuration (R21 to R25) -/

/-- A configuration some accepted CONFIG wrote. -/
def State.Configured (s : State) : Prop :=
  1 ≤ s.cfgBitRateHz.toNat ∧ s.cfgBitRateHz.toNat ≤ 1000000 ∧
  5 * s.cfgBitRateHz.toNat ≤ s.cfgSampleRateHz.toNat ∧
  s.samplesPerBit.toNat = s.cfgSampleRateHz.toNat / s.cfgBitRateHz.toNat

/-- No CONFIG was accepted since reset: no configuration, no session, nothing decoded. -/
def State.Unconfigured (s : State) : Prop :=
  s.cfgBitRateHz = 0 ∧ s.cfgSampleRateHz = 0 ∧ s.cfgInverted = false ∧ s.samplesPerBit = 0 ∧
  s.armed = false ∧ s.state = .idle

/-! ## The invariant -/

/-- What holds between two commands, and between two BitEvents of one. -/
structure State.Inv (s : State) : Prop where
  /-- The position is legal (R31, R32, R204). -/
  position : s.PositionLegal
  /-- De-stuffing is active exactly in the six states of the stuffed region (R51, R52). -/
  destuff : s.destuffActive = stuffedRegion s.state
  /-- The tracker of an active De-stuffer is at 1 to 5 (R51, `42_destuffer.md` R167). -/
  tracker : s.destuffActive = true → 1 ≤ s.runLength.toNat ∧ s.runLength.toNat ≤ 5
  /-- In recovery the eleventh recessive bit has not been seen (`45_error_recovery.md` R247). -/
  recovery : s.state = .decoderError → s.lastBit = true → s.runLength.toNat ≤ 10
  /-- In recovery a violation has been recorded (`60_exceptions.md` R268). -/
  recorded : s.state = .decoderError → s.errCause ≠ .none
  /-- DATA is entered only by a data frame (`43_frame_fsm.md` R192). -/
  dataFrame : s.state = .data → s.isData = true
  /-- After CONTROL the length is the clamped code (R42). -/
  length : afterControl s.state = true → s.dataLen = clampLength s.dlc
  /-- Before DATA no byte is declared or received (R48, R49). -/
  noDataYet : beforeData s.state = true → s.dataLen = 0 ∧ s.data = .zero
  /-- Bytes from `dataLen` on are 0 (R49). -/
  bytesBeyond : ∀ k : Fin 8, s.dataLen.toNat ≤ k.val → s.data.get k = 0
  /-- The identifier of a frame not seen to be extended has at most eleven significant bits (R40). -/
  baseIdentifier : s.isExtended = false → s.identifier.toNat < 2 ^ 11
  /-- EXT_IDENTIFIER is entered only by a recessive IDE, which marks the frame as extended (`43_frame_fsm.md` R185). -/
  extended : s.state = .extIdentifier → s.isExtended = true
  /-- In IDENTIFIER only the bits received so far are significant (R40). -/
  identifierSoFar : s.state = .identifier →
    s.isExtended = false ∧ s.identifier.toNat < 2 ^ min s.fieldBitIndex.toNat 11
  /-- On entry to CRC15 the snapshot is the accumulator (R53). -/
  snapshot : s.state = .crc15 → s.fieldBitIndex = 0 → s.crcSnapshot = s.crc
  /-- A fault code is held exactly in mode FAULT (R26). -/
  faulted : s.mode = .fault ↔ s.faultCode ≠ .none
  /-- RUN is entered only by an accepted CONFIG (R24, R25). -/
  running : s.mode = .run → s.Configured
  /-- Before the first accepted CONFIG there is no configuration (R24, R25). -/
  unconfigured : s.mode = .unconfigured → s.Unconfigured
  /-- The configuration is always whole: written by one CONFIG or by reset (R24). -/
  configuration : s.Configured ∨ s.Unconfigured

/-- The CRC engine, the received sequence and the snapshot agree (`44_crc15.md` R234): within CRC15 the accumulator is the
snapshot fed with the bits received so far, and past it the sequence received IS the snapshot. -/
structure State.CrcAgrees (s : State) : Prop where
  receiving : s.state = .crc15 →
    s.crcRx.toNat < 2 ^ s.fieldBitIndex.toNat ∧
    s.crc = crcFeedAll s.crcSnapshot
      ((List.range s.fieldBitIndex.toNat).map fun j => s.crcRx.getLsbD (s.fieldBitIndex.toNat - 1 - j))
  notYet : beforeData s.state = true ∨ s.state = .data → s.crcRx = 0
  accepted : afterCrc s.state = true → s.crc = 0 ∧ s.crcRx = s.crcSnapshot

/-! ## Markers -/

/-- The MRK stream after one more marker: nothing is added when the port is absent (`30_encoding.md` R104). -/
def State.markersWith (s : State) (cls : MarkerClass) (b : Bit) (n : Sample) : List Marker :=
  if s.hasMarkers then s.mrkOut ++ [⟨cls, b, n⟩] else s.mrkOut

/-- A state without what the MRK port shows. -/
def State.withoutMarkers (s : State) : State := { s with mrkOut := [], hasMarkers := false }

/-! ## The transition table (R203) -/

/-- A row of R203: the state and the index range the bit is consumed at, its value if it matters, the state after, the
record emitted, the cause written, and the row's further condition on the bit, the state before and the state after. -/
structure TransitionRow where
  source : FieldState
  lo : Nat
  hi : Nat
  bit : Option Bit
  target : FieldState
  record : Option RecordKind := none
  cause : Option Cause := none
  guard : Bit → State → State → Prop := fun _ _ _ => True

/-- This bit is the eleventh consecutive recessive one (`45_error_recovery.md` R246, R247). -/
def eleventhRecessive (b : Bit) (s : State) : Prop := b = true ∧ s.lastBit = true ∧ s.runLength.toNat = 10

/-- The rows of R203 for a bit a handler consumes, in its order. In a guard `s` is the state the De-stuffer forwards the bit
in, but for the tracker, and `t` the state after. -/
def handlerRows : List TransitionRow :=
  [{ source := .idle, lo := 0, hi := 0, bit := some true, target := .idle },
   { source := .idle, lo := 0, hi := 0, bit := some false, target := .identifier },
   { source := .identifier, lo := 0, hi := 11, bit := none, target := .identifier },
   { source := .identifier, lo := 12, hi := 12, bit := some false, target := .control, record := some .standardIdentifier },
   { source := .identifier, lo := 12, hi := 12, bit := some true, target := .extIdentifier },
   { source := .extIdentifier, lo := 0, hi := 18, bit := none, target := .extIdentifier },
   { source := .extIdentifier, lo := 19, hi := 19, bit := some false, target := .control
     record := some .extendedIdentifier },
   { source := .extIdentifier, lo := 19, hi := 19, bit := some true, target := .decoderError, cause := some .formR1 },
   { source := .control, lo := 0, hi := 0, bit := some false, target := .control },
   { source := .control, lo := 0, hi := 0, bit := some true, target := .control, record := some .decodeError
     cause := some .formR0 },
   { source := .control, lo := 1, hi := 3, bit := none, target := .control },
   { source := .control, lo := 4, hi := 4, bit := none, target := .data, record := some .control
     guard := fun _ _ t => 0 < t.dataLen.toNat ∧ t.isData = true },
   { source := .control, lo := 4, hi := 4, bit := none, target := .crc15, record := some .control
     guard := fun _ _ t => ¬ (0 < t.dataLen.toNat ∧ t.isData = true) }] ++
  [{ source := .data, lo := 0, hi := 63, bit := none, target := .data
     guard := fun _ s _ => s.fieldBitIndex.toNat % 8 < 7 },
   { source := .data, lo := 0, hi := 63, bit := none, target := .data, record := some .dataByte
     guard := fun _ s _ => s.fieldBitIndex.toNat % 8 = 7 ∧ s.fieldBitIndex.toNat / 8 + 1 < s.dataLen.toNat },
   { source := .data, lo := 0, hi := 63, bit := none, target := .crc15, record := some .dataByte
     guard := fun _ s _ => s.fieldBitIndex.toNat % 8 = 7 ∧ s.fieldBitIndex.toNat / 8 + 1 = s.dataLen.toNat },
   { source := .crc15, lo := 0, hi := 13, bit := none, target := .crc15 },
   { source := .crc15, lo := 14, hi := 14, bit := none, target := .crcDelimiter, record := some .crc
     guard := fun _ _ t => t.crc = 0 },
   { source := .crc15, lo := 14, hi := 14, bit := none, target := .decoderError, record := some .crc
     cause := some .crcMismatch, guard := fun _ _ t => t.crc ≠ 0 },
   { source := .crcDelimiter, lo := 0, hi := 0, bit := some true, target := .ack },
   { source := .crcDelimiter, lo := 0, hi := 0, bit := some false, target := .decoderError
     cause := some .formCrcDelimiter },
   { source := .ack, lo := 0, hi := 0, bit := none, target := .ack },
   { source := .ack, lo := 1, hi := 1, bit := some true, target := .endOfFrame, record := some .ack },
   { source := .ack, lo := 1, hi := 1, bit := some false, target := .decoderError, cause := some .formAckDelimiter }] ++
  [{ source := .endOfFrame, lo := 0, hi := 5, bit := some true, target := .endOfFrame },
   { source := .endOfFrame, lo := 6, hi := 6, bit := some true, target := .intermission, record := some .eof },
   { source := .endOfFrame, lo := 0, hi := 6, bit := some false, target := .decoderError, cause := some .formEof },
   { source := .intermission, lo := 0, hi := 1, bit := some true, target := .intermission },
   { source := .intermission, lo := 2, hi := 2, bit := some true, target := .idle, record := some .intermission },
   { source := .intermission, lo := 0, hi := 2, bit := some false, target := .decoderError
     cause := some .formIntermission },
   { source := .decoderError, lo := 0, hi := 0, bit := some true, target := .idle, record := some .decodeError
     guard := fun b s _ => eleventhRecessive b s },
   { source := .decoderError, lo := 0, hi := 0, bit := none, target := .decoderError
     guard := fun b s _ => ¬ eleventhRecessive b s }]

/-- The two rows of R203 for a bit the active De-stuffer consumes in state `st`: the sixth identical bit, and a stuff bit. -/
def destuffRows (st : FieldState) : List TransitionRow :=
  if stuffedRegion st then
    [{ source := st, lo := 0, hi := 63, bit := none, target := .decoderError, cause := some .stuff
       guard := fun b s _ => s.destuffActive = true ∧ s.runLength = 5 ∧ b = s.lastBit },
     { source := st, lo := 0, hi := 63, bit := none, target := st
       guard := fun b s _ => s.destuffActive = true ∧ s.runLength = 5 ∧ b ≠ s.lastBit }]
  else []

/-- A row describes the move from `s` to `t` by a bit `b`. `errCause` changes only by a row that names a cause. -/
def TransitionRow.Describes (r : TransitionRow) (b : Bit) (s t : State) : Prop :=
  r.source = s.state ∧ r.lo ≤ s.fieldBitIndex.toNat ∧ s.fieldBitIndex.toNat ≤ r.hi ∧
  (∀ v, r.bit = some v → b = v) ∧ r.guard b s t ∧ r.target = t.state ∧ t.errCause = r.cause.getD s.errCause ∧
  (match r.record with
   | none => t.recOut = s.recOut
   | some k => ∃ e, t.recOut = s.recOut ++ [e] ∧ e.kind = k)

/-! ## The de-stuffer alone -/

/-- The bits the active De-stuffer forwards of a bit string, from the tracker of `s`, or `none` when it reaches VIOLATION:
the cases the machine's own key and decoder select, with the tracker writes of `42_destuffer.md` R162 to R165 and without
the handlers (R169). -/
def destuffAll : State → List Bit → Option (List Bit)
  | _, [] => some []
  | s, b :: rest =>
    match decodeDestuff (destuffKey s b) b 0 with
    | .dsStuffBit _ _ => destuffAll (trackRestart b s) rest
    | .dsSame _ _ => (destuffAll (trackSame s) rest).map (b :: ·)
    | .dsChange _ _ => (destuffAll (trackRestart b s) rest).map (b :: ·)
    | _ => none

/-! ## Words of the statements -/

/-- The handler row `i` is selected at every index `lo` to `hi` of the state with this code. -/
def Selects (code : BitVec 4) (lo hi : Nat) (i : Bit → Sample → Instr) : Prop :=
  ∀ (index : BitVec 7) (b : Bit) (n : Sample), lo ≤ index.toNat → index.toNat ≤ hi →
    decode (.handler code index b n) = .ok (i b n)

/-- The commands that are discarded in mode FAULT: all but RESET (`40_host_commands.md` R120). -/
def isCommandButReset : Instr → Bool
  | .nop _ | .config _ _ _ _ | .seg _ _ _ | .reservedOp _ _ => true
  | _ => false

/-- The 1 or 0 of a flag in a 64-bit payload field (R98). -/
def flagPayload (b : Bool) : BitVec 64 := if b then 1 else 0

/-- A result without what the MRK port shows. -/
def resultWithoutMarkers : Result → Result
  | .next s => .next s.withoutMarkers
  | .fault f => .fault f
  | .refused r => .refused r

/-! ## What an error-free frame reports (R99, R205) -/

/-- A frame `Encode` can be asked for with a legal length: at most eight data bytes, all of them given, none in a remote
frame; a base identifier has eleven bits. -/
def FrameSpec.Valid (f : FrameSpec) : Prop :=
  f.dlc.toNat ≤ 8 ∧ f.payload.length = (if f.remote then 0 else f.dlc.toNat) ∧
  (f.ext = false → f.id.toNat < 2 ^ 11)

/-- The records of an error-free frame but for their bounds, up to the `Eof`: kind and payload fields (R98, R99). -/
def FrameSpec.report (f : FrameSpec) : List (RecordKind × BitVec 64 × BitVec 64) :=
  [(if f.ext then .extendedIdentifier else .standardIdentifier, f.id.setWidth 64, flagPayload (!f.remote)),
   (.control, f.dlc.setWidth 64, 0)] ++
  f.payload.mapIdx (fun i v => (.dataByte, v.setWidth 64, BitVec.ofNat 64 i)) ++
  [(.crc, f.crc.setWidth 64, 0), (.ack, flagPayload (!f.ack), 0), (.eof, 0, 0)]

end Sys2Proof.Machine
end

