-- ==== Sys2Proof/Certificates/Slice0/Obligations.lean ====
section
/-! DEFINITION. The statements for the provers. Each docstring names the rules of spec/ the statement formalises. -/

open Sys2Proof Sys2Proof.Machine

/-! ## Encoding -/

/-- Decoding the encoding of a well-formed instruction gives it back, every operand at every value. (The encoder writes a
de-stuffer case or a handler at the lowest key or index of its row: the model's choice, log entry 15. The payload that NOP,
RESET and a reserved opcode ignore is an operand: the model's choice, log entry 17.) -/
def Obligations.DecodeOfEncodeIsTheInstruction : Prop :=
  ∀ i : Instr, i.wellFormed = true → decode (encode i) = .ok i

/-- The model's form of the total decoder of `30_encoding.md` section 1: every 132-bit word decodes to one well-formed
command. That encoding this command gives the word back, so that no bit is dropped, is the model's choice (DESIGN CHOICE, log
entry 17): it keeps as an operand the payload that NOP, RESET and a reserved opcode ignore, of which the spec says only that
it is ignored. -/
def Obligations.EveryCommandWordIsOneCommand : Prop :=
  ∀ w : CmdWord, (decodeCommand w).wellFormed = true ∧ encode (decodeCommand w) = .cmd w

/-- Words written out from `30_encoding.md` R82 to R86 (the vectors T-H1, T-H3, T-H11, T-H13, T-H18 of `95_test_vectors.md`),
keys from R160 and positions from R31, R32, each with the instruction it stands for. (That an index outside R32 is an error
of this name is the model's choice, log entry 6; that an ignored payload is an operand is its choice too, log entry 17.) -/
def Obligations.WrittenWordsDecodeToTheirInstructions : Prop :=
  decode (.cmd 0x000000000000000000000000000000000) = .ok (.nop 0) ∧
  decode (.cmd 0x3ffffffffffffffffffffffffffffffff) = .ok (.reset (BitVec.allOnes 129)) ∧
  decode (.cmd 0x40000000000000000000000f42401e848) = .ok (.config 0 false 1000000 125000) ∧
  decode (.cmd 0x700000000000000500000000000000050) = .ok (.seg true 80 80) ∧
  decode (.cmd 0x800000000000000000000000000000000) = .ok (.reservedOp 0b100 0) ∧
  decode (.destuff 0b0110 true 220) = .ok (.dsStuffBit true 220) ∧
  decode (.handler 2 19 false 396) = .ok (.extIdentifierR1 false 396) ∧
  decode (.handler 5 15 false 0) = .error (.unreachableIndex 5 15)

/-- R31, R32, R204: at every legal position a handler row stands, never an unreachable one, and that instruction completes;
and no handler ever runs to a next state at an index outside the range of R32, where the model stops by its own choice (log
entries 5 and 6). -/
def Obligations.HandlersRunExactlyAtLegalPositions : Prop :=
  ∀ (s : State) (b : Bit) (n : Sample),
    (s.PositionLegal → ∃ i t, decode (.handler s.state.code s.fieldBitIndex b n) = .ok i ∧ exec i s = .next t ∧
      i ≠ .stateUnreachable11 b n ∧ ∀ c, i ≠ .stateUnreachable12To15 c b n) ∧
    (∀ t, runHandler b n s = .next t → s.fieldBitIndex.toNat < s.state.positions s.dataLen)

/-! ## Reset and the host commands -/

/-- R54, R300, R301: at power-up STAT shows the table of R54 and nothing is on the ports. (`hasMarkers` true is the default
of R8; the ports and `hasMarkers` are the model's own fields, log entries 2 to 4.) -/
def Obligations.PowerUpHoldsTheResetTable : Prop :=
  State.reset.stat =
    { cfgBitRateHz := 0, cfgSampleRateHz := 0, cfgInverted := 0, samplesPerBit := 0, mode := 0, faultCode := 0
      errCause := 0, errStartSample := 0, armed := 0, state := 0, fieldBitIndex := 0, destuffActive := 0, lastBit := 1
      runLength := 0, isData := 1, isExtended := 0, ackNacked := 0, identifier := 0, dlc := 0, dataLen := 0, crc := 0
      crcSnapshot := 0, crcRx := 0, stuffBitCount := 0, sofSample := 0, fieldStartSample := 0
      data := ⟨0, 0, 0, 0, 0, 0, 0, 0⟩ } ∧
  State.reset.cmdIn = [] ∧ State.reset.recOut = [] ∧ State.reset.mrkOut = []

/-- R123: RESET, in every mode and whatever its payload, gives every register its reset value and emits nothing. (Not the
spec's words: that the output lists keep what was emitted before is the model's reading, DEDUCED from R67 and R301 in log
entry 3; that the words waiting on CMD and `hasMarkers` stay is the model's choice, log entries 2 and 4.) -/
def Obligations.ResetCommandGivesEveryRegisterItsResetValue : Prop :=
  ∀ (p : BitVec 129) (s : State), exec (.reset p) s = .next
    { State.reset with cmdIn := s.cmdIn, recOut := s.recOut, mrkOut := s.mrkOut, hasMarkers := s.hasMarkers }

/-- R122: NOP writes no register, emits nothing and raises no fault, in every mode. -/
def Obligations.NopChangesNothing : Prop :=
  ∀ (p : BitVec 129) (s : State), exec (.nop p) s = .next s

/-- R124, outside FAULT. The checks stand in the order reserved bits, bit-rate range, sampling ratio, and a refusal (R121)
writes `mode` and `faultCode` only. With legal values CONFIG writes the configuration, enters RUN, clears the violation
registers and `armed`, and puts every DecoderState register at its IDLE configuration (R48). (That a legal CONFIG leaves the
output lists as they are is the model's reading, DEDUCED from R67 and R73 in log entry 3; that the words waiting on CMD and
`hasMarkers` stay is the model's choice, log entries 2 and 4.) -/
def Obligations.ConfigIsCheckedThenBeginsASession : Prop :=
  ∀ (z : BitVec 76) (inv : Bool) (rate : BitVec 32) (bitRate : BitVec 20) (s : State), s.mode ≠ .fault →
    (z ≠ 0 → exec (.config z inv rate bitRate) s =
      .next { s with mode := .fault, faultCode := .configReservedBits }) ∧
    (z = 0 → bitRate.toNat < 1 ∨ 1000000 < bitRate.toNat → exec (.config z inv rate bitRate) s =
      .next { s with mode := .fault, faultCode := .configBitrateRange }) ∧
    (z = 0 → 1 ≤ bitRate.toNat → bitRate.toNat ≤ 1000000 → rate.toNat < 5 * bitRate.toNat →
      exec (.config z inv rate bitRate) s = .next { s with mode := .fault, faultCode := .configSamplingRatio }) ∧
    (z = 0 → 1 ≤ bitRate.toNat → bitRate.toNat ≤ 1000000 → 5 * bitRate.toNat ≤ rate.toNat →
      ∃ t, exec (.config z inv rate bitRate) s = .next t ∧
        t.samplesPerBit.toNat = rate.toNat / bitRate.toNat ∧ 5 ≤ t.samplesPerBit.toNat ∧
        t = { State.reset with
          cfgBitRateHz := bitRate, cfgSampleRateHz := rate, cfgInverted := inv, samplesPerBit := t.samplesPerBit
          mode := .run, faultCode := s.faultCode
          cmdIn := s.cmdIn, recOut := s.recOut, mrkOut := s.mrkOut, hasMarkers := s.hasMarkers })

/-- R126, R121: a reserved opcode is refused with code RESERVED_OP, whatever its payload; only `mode` and `faultCode` change.
(That the decoder keeps the ignored payload as an operand is the model's choice, log entry 17.) -/
def Obligations.ReservedOpcodeIsRefused : Prop :=
  ∀ (op : BitVec 3) (p : BitVec 129) (s : State), 4 ≤ op.toNat → s.mode ≠ .fault →
    exec (.reservedOp op p) s = .next { s with mode := .fault, faultCode := .reservedOp } ∧
    ∀ w : CmdWord, opcodeOf w = op → decode (.cmd w) = .ok (.reservedOp op (payloadOf w))

/-- R125, R121: SEG before CONFIG is refused with SEG_NOT_CONFIGURED, and in RUN a segment that does not end after it begins
with SEG_ORDER; only `mode` and `faultCode` change. -/
def Obligations.IllegalSegIsRefused : Prop :=
  ∀ (l : Level) (a e : Sample) (s : State),
    (s.mode = .unconfigured → exec (.seg l a e) s =
      .next { s with mode := .fault, faultCode := .segNotConfigured }) ∧
    (s.mode = .run → e.toNat ≤ a.toNat → exec (.seg l a e) s =
      .next { s with mode := .fault, faultCode := .segOrder })

/-- R120: in mode FAULT every command but RESET is discarded and no register changes. -/
def Obligations.FaultModeDiscardsAllButReset : Prop :=
  ∀ (i : Instr) (s : State), isCommandButReset i = true → s.mode = .fault → exec i s = .next s

/-- R144: the first segment of a session, if dominant, yields no BitEvent at all and only arms the extractor. -/
def Obligations.FirstDominantSegmentIsSkipped : Prop :=
  ∀ (l : Level) (a e : Sample) (s : State), s.mode = .run → a.toNat < e.toNat → s.armed = false →
    l = s.cfgInverted → exec (.seg l a e) s = .next { s with armed := true }

/-- R140, R141, R142, R143: an admitted segment that is not skipped hands its BitEvents to `ProcessBitEvent` one by one, in
order: there are `floor((2·run + S) / (2·S))` of them, all of value `level XOR cfgInverted`, the `k`-th with sample number
`startSample + floor(S/2) + k·S`, and `armed` is set first. -/
def Obligations.AdmittedSegProcessesItsEventsInOrder : Prop :=
  ∀ (l : Level) (a e : Sample) (s : State), s.mode = .run → a.toNat < e.toNat → s.samplesPerBit ≠ 0 →
    (s.armed = true ∨ l ≠ s.cfgInverted) →
    ∃ events : List (Bit × Sample),
      exec (.seg l a e) s = processBitEvents events { s with armed := true } ∧
      events.length =
        (2 * (e.toNat - a.toNat) + s.samplesPerBit.toNat) / (2 * s.samplesPerBit.toNat) ∧
      ∀ (k : Nat) (h : k < events.length),
        events[k].1 = (l ^^ s.cfgInverted) ∧
        events[k].2.toNat = (a.toNat + s.samplesPerBit.toNat / 2 + k * s.samplesPerBit.toNat) % 2 ^ 64

/-- R125, R140, R66: an admitted SEG completes from every state that meets the invariant; it leaves the configuration, the
mode and the CMD port alone, arms the extractor, and only appends to REC and MRK. -/
def Obligations.AdmittedSegCompletes : Prop :=
  ∀ (l : Level) (a e : Sample) (s : State), s.Inv → s.mode = .run → a.toNat < e.toNat →
    ∃ t, exec (.seg l a e) s = .next t ∧ t.Inv ∧ t.armed = true ∧
      t.mode = .run ∧ t.faultCode = s.faultCode ∧ t.cfgBitRateHz = s.cfgBitRateHz ∧
      t.cfgSampleRateHz = s.cfgSampleRateHz ∧ t.cfgInverted = s.cfgInverted ∧ t.samplesPerBit = s.samplesPerBit ∧
      t.cmdIn = s.cmdIn ∧ t.hasMarkers = s.hasMarkers ∧ s.recOut <+: t.recOut ∧ s.mrkOut <+: t.mrkOut

/-- R142: the bit count is the unique `n` with `(2n − 1)·S ≤ 2·run < (2n + 1)·S`: the run over the bit period rounded to
nearest, a tie up. -/
def Obligations.BitCountRoundsToNearest : Prop :=
  ∀ run S n : Nat, 0 < S → (bitCount run S = n ↔ 2 * n * S ≤ 2 * run + S ∧ 2 * run < (2 * n + 1) * S)

/-- R143, R148, R314: no event of a segment lies after its `nextEdgeSample`, so no sample number wraps; within a segment
sample numbers increase by exactly `samplesPerBit`. -/
def Obligations.EventsStayWithinTheirSegment : Prop :=
  ∀ (a e : Sample) (S : BitVec 32) (k : Nat), a.toNat < e.toNat → S ≠ 0 →
    k < bitCount (e.toNat - a.toNat) S.toNat →
    (samplePoint a S k).toNat = a.toNat + S.toNat / 2 + k * S.toNat ∧
    (samplePoint a S k).toNat ≤ e.toNat ∧
    (k + 1 < bitCount (e.toNat - a.toNat) S.toNat →
      (samplePoint a S (k + 1)).toNat = (samplePoint a S k).toNat + S.toNat)

/-- R120, R66, R128: a step takes the first word of CMD and runs the one command it decodes to, completely; with no word
waiting the block waits and nothing changes (the model's choice for an empty port, log entry 2). -/
def Obligations.StepRunsTheDecodedCommand : Prop :=
  ∀ s : State, (s.cmdIn = [] → step s = .next s) ∧
    ∀ (w : CmdWord) (rest : List CmdWord) (i : Instr), s.cmdIn = w :: rest → decode (.cmd w) = .ok i →
      step s = exec i { s with cmdIn := rest }

/-! ## The De-stuffer -/

/-- R160: the case a BitEvent runs, with the tests in the order of the rule. It is the instruction the decoder reads from the
key, whose four bits are `e a f q` of the format DESTUFF_CASE. -/
def Obligations.BitEventRunsTheSelectedCase : Prop :=
  ∀ (b : Bit) (n : Sample) (s : State) (i : Instr),
    i = (if s.state = .decoderError then .dsErrorbit b n
         else if s.destuffActive = false then .dsInactive b n
         else if s.runLength = 5 ∧ b ≠ s.lastBit then .dsStuffBit b n
         else if s.runLength = 5 ∧ b = s.lastBit then .dsViolation b n
         else if b = s.lastBit then .dsSame b n
         else .dsChange b n) →
    processBitEvent b n s = exec i s ∧ decode (.destuff (destuffKey s b) b n) = .ok i ∧
    ((destuffKey s b).getLsbD 3 = true ↔ s.state = .decoderError) ∧
    (destuffKey s b).getLsbD 2 = s.destuffActive ∧
    ((destuffKey s b).getLsbD 1 = true ↔ s.runLength = 5) ∧
    ((destuffKey s b).getLsbD 0 = true ↔ b = s.lastBit)

/-- R162: a stuff bit is discarded: the tracker restarts at it, the counter counts it, it is marked, and nothing else
changes. -/
def Obligations.StuffBitIsRemoved : Prop :=
  ∀ (b : Bit) (n : Sample) (s : State),
    exec (.dsStuffBit b n) s = .next
      { s with
        runLength := 1, lastBit := b, stuffBitCount := s.stuffBitCount + 1
        mrkOut := s.markersWith .stuff b n } ∧
    (s.state ≠ .decoderError → s.destuffActive = true → s.runLength = 5 → b ≠ s.lastBit →
      processBitEvent b n s = exec (.dsStuffBit b n) s)

/-- R163, R263, R268: the sixth identical bit enters DECODER_ERROR with cause STUFF at its own sample number; `lastBit`, the
CRC and every field register stay, and no record is emitted. -/
def Obligations.SixthIdenticalBitIsAStuffingViolation : Prop :=
  ∀ (b : Bit) (n : Sample) (s : State),
    exec (.dsViolation b n) s = .next
      { s with
        runLength := 6, state := .decoderError, fieldBitIndex := 0, destuffActive := false
        errStartSample := n, errCause := .stuff, mrkOut := s.markersWith .stuffError b n } ∧
    (s.state ≠ .decoderError → s.destuffActive = true → s.runLength = 5 → b = s.lastBit →
      processBitEvent b n s = exec (.dsViolation b n) s)

/-- R161, R164, R165: the three forwarding cases, each with its condition. INACTIVE leaves the tracker; SAME raises
`runLength` by one; CHANGE restarts the tracker at the bit; then the bit is forwarded. -/
def Obligations.ForwardingCasesTrackThenForward : Prop :=
  ∀ (b : Bit) (n : Sample) (s : State),
    exec (.dsInactive b n) s = forward b n s ∧
    (s.runLength.toNat ≤ 4 → exec (.dsSame b n) s = forward b n { s with runLength := s.runLength + 1 }) ∧
    exec (.dsChange b n) s = forward b n { s with runLength := 1, lastBit := b } ∧
    (s.state ≠ .decoderError → s.destuffActive = false → processBitEvent b n s = exec (.dsInactive b n) s) ∧
    (s.state ≠ .decoderError → s.destuffActive = true → s.runLength.toNat ≤ 4 → b = s.lastBit →
      processBitEvent b n s = exec (.dsSame b n) s) ∧
    (s.state ≠ .decoderError → s.destuffActive = true → s.runLength.toNat ≤ 4 → b ≠ s.lastBit →
      processBitEvent b n s = exec (.dsChange b n) s)

/-- R161, R164, R165, R180, R32: at a legal position the forwarding cases complete. They leave the configuration, `mode`,
`armed` and the CMD port alone. -/
def Obligations.ForwardingCasesComplete : Prop :=
  ∀ (b : Bit) (n : Sample) (s : State) (i : Instr), s.PositionLegal →
    i = .dsInactive b n ∨ i = .dsSame b n ∨ i = .dsChange b n →
    ∃ t, exec i s = .next t ∧ t.mode = s.mode ∧ t.faultCode = s.faultCode ∧ t.armed = s.armed ∧
      t.cfgBitRateHz = s.cfgBitRateHz ∧ t.cfgSampleRateHz = s.cfgSampleRateHz ∧ t.cfgInverted = s.cfgInverted ∧
      t.samplesPerBit = s.samplesPerBit ∧ t.cmdIn = s.cmdIn ∧ t.hasMarkers = s.hasMarkers

/-- R180, R231: `Forward` feeds the CRC engine in IDENTIFIER, EXT_IDENTIFIER, CONTROL, DATA and CRC15 and in no other state,
and then runs the handler selected at the position. -/
def Obligations.ForwardFeedsTheCrcThenRunsTheHandler : Prop :=
  ∀ (b : Bit) (n : Sample) (s : State) (i : Instr),
    decode (.handler s.state.code s.fieldBitIndex b n) = .ok i →
    (s.state ∈ [.identifier, .extIdentifier, .control, .data, .crc15] →
      forward b n s = exec i { s with crc := crcFeed s.crc b }) ∧
    (s.state ∉ [.identifier, .extIdentifier, .control, .data, .crc15] → forward b n s = exec i s)

/-! ## The handlers of the Frame Field State Machine -/

/-- R182: in IDLE a recessive bit is a complete no-op; a dominant bit is Start-Of-Frame: every DecoderState register at its
IDLE configuration, then de-stuffing active with the tracker at (1, dominant), the sample marked, IDENTIFIER entered. -/
def Obligations.IdleStartsAFrameAtADominantBit : Prop :=
  Selects 0 0 0 .idle ∧ ∀ (n : Sample) (s : State),
    exec (.idle true n) s = .next s ∧
    exec (.idle false n) s = .next
      { s with
        state := .identifier, fieldBitIndex := 0, destuffActive := true, lastBit := false, runLength := 1
        isData := true, isExtended := false, ackNacked := false, identifier := 0, dlc := 0, dataLen := 0
        crc := 0, crcSnapshot := 0, crcRx := 0, stuffBitCount := 0, sofSample := n, fieldStartSample := 0
        data := .zero, mrkOut := s.markersWith .frameStart false n }

/-- R183, R186: an identifier bit is shifted in, most significant first, eleven times in IDENTIFIER and eighteen times in
EXT_IDENTIFIER; the first of all marks the field's start, which EXT_IDENTIFIER does not write. -/
def Obligations.IdentifierBitsAreShiftedIn : Prop :=
  Selects 1 0 10 .identifierId ∧ Selects 2 0 17 .extIdentifierId ∧ ∀ (b : Bit) (n : Sample) (s : State),
    ∃ identifier : BitVec 29, identifier.toNat = (2 * s.identifier.toNat + b.toNat) % 2 ^ 29 ∧
      exec (.identifierId b n) s = .next
        { s with
          fieldStartSample := if s.fieldBitIndex = 0 then n else s.fieldStartSample
          identifier := identifier, fieldBitIndex := s.fieldBitIndex + 1, mrkOut := s.markersWith .normal b n } ∧
      exec (.extIdentifierId b n) s = .next
        { s with
          identifier := identifier, fieldBitIndex := s.fieldBitIndex + 1, mrkOut := s.markersWith .normal b n }

/-- R184, R187: an RTR bit sets the frame kind, recessive = remote; the one of EXT_IDENTIFIER overrides. -/
def Obligations.RtrBitsSetTheFrameKind : Prop :=
  Selects 1 11 11 .identifierRtr ∧ Selects 2 18 18 .extIdentifierRtr ∧ ∀ (b : Bit) (n : Sample) (s : State),
    exec (.identifierRtr b n) s = .next
      { s with
        isData := !b, fieldBitIndex := 12
        mrkOut := s.markersWith (if b then .recessive else .dominant) b n } ∧
    exec (.extIdentifierRtr b n) s = .next
      { s with
        isData := !b, fieldBitIndex := 19
        mrkOut := s.markersWith (if b then .recessive else .dominant) b n }

/-- R185: IDE recessive goes to EXT_IDENTIFIER; dominant emits `StandardIdentifier` and goes to CONTROL. -/
def Obligations.IdeSelectsTheFormat : Prop :=
  Selects 1 12 12 .identifierIde ∧ ∀ (n : Sample) (s : State),
    exec (.identifierIde true n) s = .next
      { s with
        isExtended := true, state := .extIdentifier, fieldBitIndex := 0
        mrkOut := s.markersWith .recessive true n } ∧
    exec (.identifierIde false n) s = .next
      { s with
        state := .control, fieldBitIndex := 0, mrkOut := s.markersWith .dominant false n
        recOut := s.recOut ++ [⟨.standardIdentifier, BitVec.ofNat 64 (s.identifier.toNat % 2 ^ 11),
          flagPayload s.isData, s.fieldStartSample, n⟩] }

/-- R188, R264: R1 recessive is FORM_R1 and no identifier record is emitted; dominant emits `ExtendedIdentifier` with all 29
bits and goes to CONTROL. -/
def Obligations.R1MustBeDominant : Prop :=
  Selects 2 19 19 .extIdentifierR1 ∧ ∀ (n : Sample) (s : State),
    exec (.extIdentifierR1 true n) s = .next
      { s with
        state := .decoderError, fieldBitIndex := 0, destuffActive := false, errStartSample := n, errCause := .formR1
        mrkOut := s.markersWith .error true n } ∧
    exec (.extIdentifierR1 false n) s = .next
      { s with
        state := .control, fieldBitIndex := 0, mrkOut := s.markersWith .dominant false n
        recOut := s.recOut ++ [⟨.extendedIdentifier, BitVec.ofNat 64 s.identifier.toNat,
          flagPayload s.isData, s.fieldStartSample, n⟩] }

/-- R189, R265: R0 recessive is flagged by cause 3, a one-bit `DecodeError` record and an ERROR marker, and decoding goes
on; the state, de-stuffing and `errStartSample` stay. -/
def Obligations.RecessiveR0IsFlaggedAndDecodingGoesOn : Prop :=
  Selects 3 0 0 .controlR0 ∧ ∀ (n : Sample) (s : State),
    exec (.controlR0 false n) s = .next
      { s with fieldStartSample := n, fieldBitIndex := 1, mrkOut := s.markersWith .dominant false n } ∧
    exec (.controlR0 true n) s = .next
      { s with
        fieldStartSample := n, fieldBitIndex := 1, errCause := .formR0, mrkOut := s.markersWith .error true n
        recOut := s.recOut ++ [⟨.decodeError, 0, 0, n, n⟩] }

/-- R190: a DLC bit is shifted in, most significant first. -/
def Obligations.DlcBitIsShiftedIn : Prop :=
  Selects 3 1 3 .controlDlc ∧ ∀ (b : Bit) (n : Sample) (s : State), ∃ t,
    exec (.controlDlc b n) s = .next t ∧ t.dlc.toNat = (2 * s.dlc.toNat + b.toNat) % 16 ∧
    t = { s with dlc := t.dlc, fieldBitIndex := s.fieldBitIndex + 1, mrkOut := s.markersWith .normal b n }

/-- R191, R42: the last DLC bit emits `Control` with the code as received, clamps the length to 8, snapshots the CRC, and
goes to CRC15 when there is no data to come, else to DATA. -/
def Obligations.LastDlcBitCompletesControl : Prop :=
  Selects 3 4 4 .controlDlcLast ∧ ∀ (b : Bit) (n : Sample) (s : State), ∃ t,
    exec (.controlDlcLast b n) s = .next t ∧ t.dlc.toNat = (2 * s.dlc.toNat + b.toNat) % 16 ∧
    t.dataLen.toNat = min t.dlc.toNat 8 ∧
    t = { s with
      dlc := t.dlc, dataLen := t.dataLen, crcSnapshot := s.crc, fieldBitIndex := 0
      state := if t.dataLen.toNat = 0 ∨ s.isData = false then .crc15 else .data
      mrkOut := s.markersWith .normal b n
      recOut := s.recOut ++ [⟨.control, BitVec.ofNat 64 t.dlc.toNat, 0, s.fieldStartSample, n⟩] }

/-- R192: at an index below `8 × dataLen` a data bit is shifted into its byte and no other byte changes; the first bit of a
byte marks its start; the eighth emits `DataByte`, and after the last byte the CRC is snapshot again and CRC15 entered. -/
def Obligations.DataBitIsShiftedIntoItsByte : Prop :=
  Selects 4 0 63 .data ∧ ∀ (b : Bit) (n : Sample) (s : State) (k : Fin 8),
    s.dataLen.toNat ≤ 8 → s.fieldBitIndex.toNat < 8 * s.dataLen.toNat → k.val = s.fieldBitIndex.toNat / 8 →
    ∃ t, exec (.data b n) s = .next t ∧
      (t.data.get k).toNat = (2 * (s.data.get k).toNat + b.toNat) % 256 ∧
      (∀ k' : Fin 8, k' ≠ k → t.data.get k' = s.data.get k') ∧
      t.fieldStartSample = (if s.fieldBitIndex.toNat % 8 = 0 then n else s.fieldStartSample) ∧
      (s.fieldBitIndex.toNat % 8 < 7 → t.recOut = s.recOut) ∧
      (s.fieldBitIndex.toNat % 8 = 7 → t.recOut = s.recOut ++
        [⟨.dataByte, BitVec.ofNat 64 (t.data.get k).toNat, BitVec.ofNat 64 k.val, t.fieldStartSample, n⟩]) ∧
      (if s.fieldBitIndex.toNat + 1 = 8 * s.dataLen.toNat then
        t.state = .crc15 ∧ t.fieldBitIndex = 0 ∧ t.crcSnapshot = s.crc
       else t.state = s.state ∧ t.fieldBitIndex = s.fieldBitIndex + 1 ∧ t.crcSnapshot = s.crcSnapshot) ∧
      t = { s with
        data := t.data, fieldStartSample := t.fieldStartSample, recOut := t.recOut, state := t.state
        fieldBitIndex := t.fieldBitIndex, crcSnapshot := t.crcSnapshot, mrkOut := s.markersWith .normal b n }

/-- R193: a CRC bit is shifted into `crcRx`; the first one marks the field's start. -/
def Obligations.CrcBitIsShiftedIn : Prop :=
  Selects 5 0 13 .crc15Bits ∧ ∀ (b : Bit) (n : Sample) (s : State), ∃ t,
    exec (.crc15Bits b n) s = .next t ∧ t.crcRx.toNat = (2 * s.crcRx.toNat + b.toNat) % 2 ^ 15 ∧
    t = { s with
      fieldStartSample := if s.fieldBitIndex = 0 then n else s.fieldStartSample
      crcRx := t.crcRx, fieldBitIndex := s.fieldBitIndex + 1, mrkOut := s.markersWith .normal b n }

/-- R194, R233: the fifteenth CRC bit emits `Crc` with the value received and the live accumulator; residue 0 goes to
CRC_DELIMITER, any other residue is CRC_MISMATCH. -/
def Obligations.FifteenthCrcBitJudgesTheResidue : Prop :=
  Selects 5 14 14 .crc15Last ∧ ∀ (b : Bit) (n : Sample) (s : State), ∃ t,
    exec (.crc15Last b n) s = .next t ∧ t.crcRx.toNat = (2 * s.crcRx.toNat + b.toNat) % 2 ^ 15 ∧
    t.recOut = s.recOut ++
      [⟨.crc, BitVec.ofNat 64 t.crcRx.toNat, BitVec.ofNat 64 s.crc.toNat, s.fieldStartSample, n⟩] ∧
    (s.crc = 0 → t =
      { s with
        crcRx := t.crcRx, recOut := t.recOut, state := .crcDelimiter, fieldBitIndex := 0
        mrkOut := s.markersWith .normal b n }) ∧
    (s.crc ≠ 0 → t =
      { s with
        crcRx := t.crcRx, recOut := t.recOut, state := .decoderError, fieldBitIndex := 0, destuffActive := false
        errStartSample := n, errCause := .crcMismatch, mrkOut := s.markersWith .error b n })

/-- R195: the CRC delimiter ends de-stuffing; recessive goes to ACK, dominant is FORM_CRC_DELIMITER. -/
def Obligations.CrcDelimiterMustBeRecessive : Prop :=
  Selects 6 0 0 .crcDelimiter ∧ ∀ (n : Sample) (s : State),
    exec (.crcDelimiter true n) s = .next
      { s with
        destuffActive := false, state := .ack, fieldBitIndex := 0, mrkOut := s.markersWith .recessive true n } ∧
    exec (.crcDelimiter false n) s = .next
      { s with
        destuffActive := false, state := .decoderError, fieldBitIndex := 0, errStartSample := n
        errCause := .formCrcDelimiter, mrkOut := s.markersWith .error false n }

/-- R196, R269: the ACK slot is latched, recessive = not acknowledged, and is no violation either way. -/
def Obligations.AckSlotIsLatched : Prop :=
  Selects 7 0 0 .ackSlot ∧ ∀ (b : Bit) (n : Sample) (s : State),
    exec (.ackSlot b n) s = .next
      { s with
        fieldStartSample := n, ackNacked := b, fieldBitIndex := 1
        mrkOut := s.markersWith (if b then .recessive else .dominant) b n }

/-- R197: the ACK delimiter, recessive, emits `Ack` and goes to END_OF_FRAME; dominant restarts the tracker at it and is
FORM_ACK_DELIMITER, with no `Ack` record. -/
def Obligations.AckDelimiterMustBeRecessive : Prop :=
  Selects 7 1 1 .ackDelimiter ∧ ∀ (n : Sample) (s : State),
    exec (.ackDelimiter true n) s = .next
      { s with
        state := .endOfFrame, fieldBitIndex := 0, mrkOut := s.markersWith .recessive true n
        recOut := s.recOut ++ [⟨.ack, flagPayload s.ackNacked, 0, s.fieldStartSample, n⟩] } ∧
    exec (.ackDelimiter false n) s = .next
      { s with
        runLength := 1, lastBit := false, state := .decoderError, fieldBitIndex := 0, destuffActive := false
        errStartSample := n, errCause := .formAckDelimiter, mrkOut := s.markersWith .error false n }

/-- R198: seven recessive EOF bits emit `Eof` and go to INTERMISSION; a dominant one is FORM_EOF. -/
def Obligations.EndOfFrameMustBeRecessive : Prop :=
  Selects 8 0 6 .endOfFrame ∧ ∀ (n : Sample) (s : State) (start : Sample),
    start = (if s.fieldBitIndex = 0 then n else s.fieldStartSample) →
    (s.fieldBitIndex.toNat < 6 → exec (.endOfFrame true n) s = .next
      { s with
        fieldStartSample := start, fieldBitIndex := s.fieldBitIndex + 1
        mrkOut := s.markersWith .recessive true n }) ∧
    (s.fieldBitIndex.toNat = 6 → exec (.endOfFrame true n) s = .next
      { s with
        fieldStartSample := start, state := .intermission, fieldBitIndex := 0
        mrkOut := s.markersWith .recessive true n, recOut := s.recOut ++ [⟨.eof, 0, 0, start, n⟩] }) ∧
    exec (.endOfFrame false n) s = .next
      { s with
        fieldStartSample := start, runLength := 1, lastBit := false, state := .decoderError, fieldBitIndex := 0
        destuffActive := false, errStartSample := n, errCause := .formEof, mrkOut := s.markersWith .error false n }

/-- R199: three recessive intermission bits emit `Intermission` with the samples since Start-Of-Frame modulo 2^64 and the
stuff-bit count, and go to IDLE; a dominant one is FORM_INTERMISSION. -/
def Obligations.IntermissionMustBeRecessive : Prop :=
  Selects 9 0 2 .intermission ∧ ∀ (n : Sample) (s : State) (start : Sample),
    start = (if s.fieldBitIndex = 0 then n else s.fieldStartSample) →
    (s.fieldBitIndex.toNat < 2 → exec (.intermission true n) s = .next
      { s with
        fieldStartSample := start, fieldBitIndex := s.fieldBitIndex + 1
        mrkOut := s.markersWith .recessive true n }) ∧
    (s.fieldBitIndex.toNat = 2 → ∃ duration : BitVec 64,
      duration.toNat = (2 ^ 64 + n.toNat - s.sofSample.toNat) % 2 ^ 64 ∧
      exec (.intermission true n) s = .next
        { s with
          fieldStartSample := start, state := .idle, fieldBitIndex := 0, mrkOut := s.markersWith .recessive true n
          recOut := s.recOut ++ [⟨.intermission, duration, s.stuffBitCount, start, n⟩] }) ∧
    exec (.intermission false n) s = .next
      { s with
        fieldStartSample := start, runLength := 1, lastBit := false, state := .decoderError, fieldBitIndex := 0
        destuffActive := false, errStartSample := n, errCause := .formIntermission
        mrkOut := s.markersWith .error false n }

/-- R245, R246: `ErrorBit`, through either of its rows. One ERROR marker; the run is counted on raw bits, saturating at 15;
the bit that makes eleven consecutive recessive emits the one summary record and restores the IDLE configuration, while
`errStartSample` and `errCause` stay. -/
def Obligations.ErrorBitCountsElevenRecessiveBits : Prop :=
  Selects 10 0 0 .decoderError ∧ ∀ (b : Bit) (n : Sample) (s : State) (i : Instr) (run : Nat),
    i = .decoderError b n ∨ i = .dsErrorbit b n →
    run = (if b = s.lastBit then min (s.runLength.toNat + 1) 15 else 1) →
    (b = false ∨ run < 11 → ∃ t, exec i s = .next t ∧ t.runLength.toNat = run ∧
      t = { s with runLength := t.runLength, lastBit := b, mrkOut := s.markersWith .error b n }) ∧
    (b = true ∧ 11 ≤ run → exec i s = .next
      { s with
        state := .idle, fieldBitIndex := 0, destuffActive := false, lastBit := true, runLength := 0
        isData := true, isExtended := false, ackNacked := false, identifier := 0, dlc := 0, dataLen := 0
        crc := 0, crcSnapshot := 0, crcRx := 0, stuffBitCount := 0, sofSample := 0, fieldStartSample := 0
        data := .zero, mrkOut := s.markersWith .error b n
        recOut := s.recOut ++ [⟨.decodeError, 0, 0, s.errStartSample, n⟩] })

/-- R204 ("a fault of the model, not of the block"): a handler of a state code 11 to 15 stops by name, and so does DATA at an
index that is none of its positions. That the stop is a fault of the model rather than an unrepresentable value is the
model's choice (log entries 5 and 6). -/
def Obligations.UnreachablePositionsStopByName : Prop :=
  ∀ (c : BitVec 4) (b : Bit) (n : Sample) (s : State),
    exec (.stateUnreachable11 b n) s = .fault (.unreachableState 11) ∧
    exec (.stateUnreachable12To15 c b n) s = .fault (.unreachableState c) ∧
    (8 * s.dataLen.toNat ≤ s.fieldBitIndex.toNat →
      exec (.data b n) s = .fault (.unreachableIndex s.state s.fieldBitIndex)) ∧
    decode (.handler 11 0 b n) = .ok (.stateUnreachable11 b n) ∧
    (12 ≤ c.toNat → decode (.handler c 0 b n) = .ok (.stateUnreachable12To15 c b n))

/-! ## The CRC-15 Engine -/

/-- R230: `CrcFeed` as arithmetic: twice the value, modulo 2^15, XOR 0x4599 exactly when the bit differs from bit 14. -/
def Obligations.CrcFeedShiftsAndXorsThePolynomial : Prop :=
  ∀ (c : BitVec 15) (b : Bit),
    (crcFeed c b).toNat =
      if b.toNat = c.toNat / 2 ^ 14 then 2 * c.toNat % 2 ^ 15 else (2 * c.toNat % 2 ^ 15) ^^^ 0x4599

/-- R234: after feeding the fifteen received bits to the accumulator `P`, the residue is zero if and only if the received
sequence, first bit as bit 14, is `P`. -/
def Obligations.ResidueIsZeroExactlyWhenTheCrcMatches : Prop :=
  ∀ P T : BitVec 15, crcFeedAll P (msbFirst T) = 0 ↔ T = P

/-- R235: `CrcFeed` is linear over GF(2): the accumulator of the XOR of two sequences of equal length is the XOR of their
accumulators. Consequently the unmodified sequence with its CRC always yields residue 0, and flipping any single bit of it,
the length unchanged, yields a nonzero residue. -/
def Obligations.CrcIsLinearAndDetectsSingleBitErrors : Prop :=
  (∀ (pairs : List (Bit × Bit)) (c d : BitVec 15),
    crcFeedAll (c ^^^ d) (pairs.map fun p => p.1 ^^ p.2) =
      crcFeedAll c (pairs.map Prod.fst) ^^^ crcFeedAll d (pairs.map Prod.snd)) ∧
  (∀ (before after : List Bit) (b : Bit) (T : BitVec 15), T = crcFeedAll 0 (before ++ b :: after) →
    crcFeedAll 0 (before ++ b :: after ++ msbFirst T) = 0 ∧
    crcFeedAll 0 (before ++ (!b) :: after ++ msbFirst T) ≠ 0)

/-! ## The whole machine -/

/-- The invariant holds after reset. -/
def Obligations.InvariantHoldsAtReset : Prop := State.reset.Inv ∧ State.reset.CrcAgrees

/-- Headline. R24, R26, R31, R32, R40, R42, R49, R51, R52, R53, R167, R247: every step keeps the invariant. -/
def Obligations.EveryStepKeepsTheInvariant : Prop :=
  ∀ s t : State, s.Inv → step s = .next t → t.Inv

/-- Headline. R17 ("every command completes"), R204: from a state that meets the invariant no step faults and none is
refused. -/
def Obligations.NoStepStops : Prop := ∀ s : State, s.Inv → ∃ t, step s = .next t ∧ t.Inv

/-- Headline. R234, R53: every step keeps the agreement of CRC engine, received sequence and snapshot; so a frame gets to
its ACK field only with the CRC sequence the decoder itself computed. -/
def Obligations.EveryStepKeepsTheCrcAgreement : Prop :=
  ∀ s t : State, s.Inv → s.CrcAgrees → step s = .next t → t.CrcAgrees

/-- R203: every move of the machine by a BitEvent is a row of the transition table: its state, index, bit and condition before,
its state after, the record it names and no other, and the cause it names. -/
def Obligations.EveryMoveIsARowOfTheTransitionTable : Prop :=
  ∀ (b : Bit) (n : Sample) (s t : State), s.Inv → processBitEvent b n s = .next t →
    ∃ r ∈ handlerRows ++ destuffRows s.state, r.Describes b s t

/-- R70, R202: a BitEvent causes at most one record, which ends at its own sample number, and exactly one marker, carrying
its value and sample number, except that a recessive bit in IDLE causes none. -/
def Obligations.OneMarkerAndAtMostOneRecordPerBit : Prop :=
  ∀ (b : Bit) (n : Sample) (s t : State), s.Inv → processBitEvent b n s = .next t →
    (t.recOut = s.recOut ∨ ∃ r, t.recOut = s.recOut ++ [r] ∧ r.last = n) ∧
    (if s.state = .idle ∧ b = true then t.mrkOut = s.mrkOut
     else ∃ cls, t.mrkOut = s.markersWith cls b n)

/-- R67 as the model reads it: REC and MRK are append-only, and no step retracts, rewrites or reorders what was emitted.
(That RESET and CONFIG too leave the lists of emitted elements whole is DEDUCED, log entry 3; that CMD is a list which gives
up one word a step is the model's choice, log entry 2; and that `hasMarkers` never changes is its choice, log entry 4.) -/
def Obligations.OutputIsAppendOnly : Prop :=
  ∀ s t : State, step s = .next t →
    s.recOut <+: t.recOut ∧ s.mrkOut <+: t.mrkOut ∧ t.cmdIn = s.cmdIn.tail ∧ t.hasMarkers = s.hasMarkers

/-- R104, R277: nothing but the MRK port depends on markers: with MRK absent, or holding anything else, every instruction
has the same effect on all the rest. -/
def Obligations.MarkersAreAdvisory : Prop :=
  ∀ (i : Instr) (s : State) (h : Bool) (m : List Marker),
    resultWithoutMarkers (exec i { s with mrkOut := m, hasMarkers := h }) = resultWithoutMarkers (exec i s)

/-- R275, R26, R120: the modes move only as the table of R275 has it. In FAULT a step changes nothing but the CMD port,
unless it runs a RESET, which leads to UNCONFIGURED. Otherwise RUN is entered by CONFIG, UNCONFIGURED by RESET, and FAULT by
a refusal, which changes `mode` and `faultCode` only. (That CMD is a list which gives up one word a step is the model's
choice, log entry 2.) -/
def Obligations.ModesMoveByCommandsOnly : Prop :=
  ∀ (s t : State) (w : CmdWord) (rest : List CmdWord), s.cmdIn = w :: rest → step s = .next t →
    (s.mode = .fault →
      t = { s with cmdIn := rest } ∨ (opcodeOf w = 0b001 ∧ t.mode = .unconfigured ∧ t.faultCode = .none)) ∧
    (s.mode ≠ .fault →
      (t.mode = .unconfigured → opcodeOf w = 0b001 ∨ (s.mode = .unconfigured ∧ opcodeOf w = 0b000)) ∧
      (t.mode = .run → opcodeOf w = 0b010 ∨ (s.mode = .run ∧ (opcodeOf w = 0b000 ∨ opcodeOf w = 0b011))) ∧
      (t.mode = .fault → t = { s with cmdIn := rest, mode := .fault, faultCode := t.faultCode } ∧ t.faultCode ≠ .none))

/-- R245, R248 (c): a dominant level keeps the decoder in recovery for as long as it lasts: one ERROR marker per bit, no
record, and no register changes but the tracker. -/
def Obligations.DominantLevelKeepsRecovering : Prop :=
  ∀ (samples : List Sample) (s : State), s.state = .decoderError → samples ≠ [] →
    ∃ t, processBitEvents (samples.map fun n => (false, n)) s = .next t ∧
      t = { s with
        lastBit := false, runLength := t.runLength
        mrkOut := if s.hasMarkers then s.mrkOut ++ samples.map (fun n => ⟨.error, false, n⟩) else s.mrkOut } ∧
      (15 ≤ samples.length → t.runLength = 15)

/-- R246, R247, R311: whatever came before, eleven consecutive recessive bits taken in recovery bring the decoder back to
IDLE. -/
def Obligations.ElevenRecessiveBitsEndRecovery : Prop :=
  ∀ (samples : List Sample) (s : State), s.Inv → s.state = .decoderError → 11 ≤ samples.length →
    ∃ t, processBitEvents (samples.map fun n => (true, n)) s = .next t ∧ t.state = .idle ∧
      ∃ r, t.recOut = s.recOut ++ [r] ∧ r.kind = .decodeError ∧ r.first = s.errStartSample ∧ r.last ∈ samples

/-- R150: from every state, IDLE is reached after at most seventeen recessive bits, and further ones change nothing. -/
def Obligations.SeventeenRecessiveBitsReachIdle : Prop :=
  ∀ (samples : List Sample) (s : State), s.Inv → samples.length = 17 →
    ∃ t, processBitEvents (samples.map fun n => (true, n)) s = .next t ∧ t.state = .idle ∧
      ∀ more : List Sample, processBitEvents ((samples ++ more).map fun n => (true, n)) s = .next t

/-- R169: for every logical bit sequence that begins with a dominant bit, the De-stuffer after that bit forwards exactly the
other bits of the sequence from its stuffed form, and never reaches VIOLATION. -/
def Obligations.DestuffingInvertsStuffing : Prop :=
  ∀ (L : List Bit) (s : State), s.state ≠ .decoderError → s.destuffActive = true → s.runLength = 1 →
    s.lastBit = false → destuffAll s (stuff (false :: L)).tail = some L

/-- R114: the macro `bits`, run as commands in an armed session with an integral bit period, is the bit string's own
BitEvents: offset `i` at sample `t0 + i·S + floor(S/2)`. -/
def Obligations.BitsMacroYieldsItsBitString : Prop :=
  ∀ (bits : List Bit) (t0 : Nat) (s : State), s.Inv → s.mode = .run → s.armed = true →
    t0 + bits.length * s.samplesPerBit.toNat < 2 ^ 64 →
    (bitsMacro s.samplesPerBit.toNat s.cfgInverted t0 bits).foldl
        (fun r w => andThen r (exec (decodeCommand w))) (.next s) =
      processBitEvents (eventsOf s.samplesPerBit.toNat t0 bits) s

/-- R99, R205: every frame with a legal length, encoded by `Encode` and taken bit by bit from IDLE, is reported exactly:
identifier, kind, declared length, every data byte, the transmitted CRC with residue 0, the acknowledgement, `Eof`,
`Intermission`, in that order and with no `DecodeError`. -/
def Obligations.EncodedFrameIsDecodedExactly : Prop :=
  ∀ (f : FrameSpec) (S t0 : Nat) (s : State), f.Valid → s.Inv → s.state = .idle →
    ∃ t, processBitEvents (eventsOf S t0 f.encode) s = .next t ∧ t.state = .idle ∧ t.errCause = s.errCause ∧
      ∃ new last, t.recOut = s.recOut ++ new ++ [last] ∧
        new.map (fun r => (r.kind, r.p0, r.p1)) = f.report ∧ last.kind = .intermission

/-- R205, the round trip through the commands: the frame presented by `bits` after at least one recessive bit, in a session
whose first segment it may be, gives exactly the records of R99. -/
def Obligations.FramePresentedByCommandsIsReportedExactly : Prop :=
  ∀ (f : FrameSpec) (idleBits t0 : Nat) (s : State), f.Valid → s.Inv → s.mode = .run → s.state = .idle → 1 ≤ idleBits →
    t0 + (idleBits + f.encode.length) * s.samplesPerBit.toNat < 2 ^ 64 →
    ∃ t, (bitsMacro s.samplesPerBit.toNat s.cfgInverted t0 (List.replicate idleBits true ++ f.encode)).foldl
        (fun r w => andThen r (exec (decodeCommand w))) (.next s) = .next t ∧
      t.state = .idle ∧ t.errCause = s.errCause ∧
      ∃ new last, t.recOut = s.recOut ++ new ++ [last] ∧
        new.map (fun r => (r.kind, r.p0, r.p1)) = f.report ∧ last.kind = .intermission
end

