-- ==== Sys2Proof/Laws/State.lean ====
section
/-! SUPPORT. What each shared operation does to each field of State: one lemma per field per operation, true by rfl, for the
simplifier. -/

namespace Sys2Proof.Machine

/-! ## `emitRec`: `EmitRec` writes the REC stream only (R96). -/

@[simp] theorem emitRec_cfgBitRateHz (k : RecordKind) (p q : BitVec 64) (a e : Sample) (s : State) : (emitRec k p q a e s).cfgBitRateHz = s.cfgBitRateHz := rfl
@[simp] theorem emitRec_cfgSampleRateHz (k : RecordKind) (p q : BitVec 64) (a e : Sample) (s : State) : (emitRec k p q a e s).cfgSampleRateHz = s.cfgSampleRateHz := rfl
@[simp] theorem emitRec_cfgInverted (k : RecordKind) (p q : BitVec 64) (a e : Sample) (s : State) : (emitRec k p q a e s).cfgInverted = s.cfgInverted := rfl
@[simp] theorem emitRec_samplesPerBit (k : RecordKind) (p q : BitVec 64) (a e : Sample) (s : State) : (emitRec k p q a e s).samplesPerBit = s.samplesPerBit := rfl
@[simp] theorem emitRec_mode (k : RecordKind) (p q : BitVec 64) (a e : Sample) (s : State) : (emitRec k p q a e s).mode = s.mode := rfl
@[simp] theorem emitRec_faultCode (k : RecordKind) (p q : BitVec 64) (a e : Sample) (s : State) : (emitRec k p q a e s).faultCode = s.faultCode := rfl
@[simp] theorem emitRec_errCause (k : RecordKind) (p q : BitVec 64) (a e : Sample) (s : State) : (emitRec k p q a e s).errCause = s.errCause := rfl
@[simp] theorem emitRec_errStartSample (k : RecordKind) (p q : BitVec 64) (a e : Sample) (s : State) : (emitRec k p q a e s).errStartSample = s.errStartSample := rfl
@[simp] theorem emitRec_armed (k : RecordKind) (p q : BitVec 64) (a e : Sample) (s : State) : (emitRec k p q a e s).armed = s.armed := rfl
@[simp] theorem emitRec_state (k : RecordKind) (p q : BitVec 64) (a e : Sample) (s : State) : (emitRec k p q a e s).state = s.state := rfl
@[simp] theorem emitRec_fieldBitIndex (k : RecordKind) (p q : BitVec 64) (a e : Sample) (s : State) : (emitRec k p q a e s).fieldBitIndex = s.fieldBitIndex := rfl
@[simp] theorem emitRec_destuffActive (k : RecordKind) (p q : BitVec 64) (a e : Sample) (s : State) : (emitRec k p q a e s).destuffActive = s.destuffActive := rfl
@[simp] theorem emitRec_lastBit (k : RecordKind) (p q : BitVec 64) (a e : Sample) (s : State) : (emitRec k p q a e s).lastBit = s.lastBit := rfl
@[simp] theorem emitRec_runLength (k : RecordKind) (p q : BitVec 64) (a e : Sample) (s : State) : (emitRec k p q a e s).runLength = s.runLength := rfl
@[simp] theorem emitRec_isData (k : RecordKind) (p q : BitVec 64) (a e : Sample) (s : State) : (emitRec k p q a e s).isData = s.isData := rfl
@[simp] theorem emitRec_isExtended (k : RecordKind) (p q : BitVec 64) (a e : Sample) (s : State) : (emitRec k p q a e s).isExtended = s.isExtended := rfl
@[simp] theorem emitRec_ackNacked (k : RecordKind) (p q : BitVec 64) (a e : Sample) (s : State) : (emitRec k p q a e s).ackNacked = s.ackNacked := rfl
@[simp] theorem emitRec_identifier (k : RecordKind) (p q : BitVec 64) (a e : Sample) (s : State) : (emitRec k p q a e s).identifier = s.identifier := rfl
@[simp] theorem emitRec_dlc (k : RecordKind) (p q : BitVec 64) (a e : Sample) (s : State) : (emitRec k p q a e s).dlc = s.dlc := rfl
@[simp] theorem emitRec_dataLen (k : RecordKind) (p q : BitVec 64) (a e : Sample) (s : State) : (emitRec k p q a e s).dataLen = s.dataLen := rfl
@[simp] theorem emitRec_crc (k : RecordKind) (p q : BitVec 64) (a e : Sample) (s : State) : (emitRec k p q a e s).crc = s.crc := rfl
@[simp] theorem emitRec_crcSnapshot (k : RecordKind) (p q : BitVec 64) (a e : Sample) (s : State) : (emitRec k p q a e s).crcSnapshot = s.crcSnapshot := rfl
@[simp] theorem emitRec_crcRx (k : RecordKind) (p q : BitVec 64) (a e : Sample) (s : State) : (emitRec k p q a e s).crcRx = s.crcRx := rfl
@[simp] theorem emitRec_stuffBitCount (k : RecordKind) (p q : BitVec 64) (a e : Sample) (s : State) : (emitRec k p q a e s).stuffBitCount = s.stuffBitCount := rfl
@[simp] theorem emitRec_sofSample (k : RecordKind) (p q : BitVec 64) (a e : Sample) (s : State) : (emitRec k p q a e s).sofSample = s.sofSample := rfl
@[simp] theorem emitRec_fieldStartSample (k : RecordKind) (p q : BitVec 64) (a e : Sample) (s : State) : (emitRec k p q a e s).fieldStartSample = s.fieldStartSample := rfl
@[simp] theorem emitRec_data (k : RecordKind) (p q : BitVec 64) (a e : Sample) (s : State) : (emitRec k p q a e s).data = s.data := rfl
@[simp] theorem emitRec_cmdIn (k : RecordKind) (p q : BitVec 64) (a e : Sample) (s : State) : (emitRec k p q a e s).cmdIn = s.cmdIn := rfl
@[simp] theorem emitRec_recOut (k : RecordKind) (p q : BitVec 64) (a e : Sample) (s : State) : (emitRec k p q a e s).recOut = s.recOut ++ [⟨k, p, q, a, e⟩] := rfl
@[simp] theorem emitRec_mrkOut (k : RecordKind) (p q : BitVec 64) (a e : Sample) (s : State) : (emitRec k p q a e s).mrkOut = s.mrkOut := rfl
@[simp] theorem emitRec_hasMarkers (k : RecordKind) (p q : BitVec 64) (a e : Sample) (s : State) : (emitRec k p q a e s).hasMarkers = s.hasMarkers := rfl

/-! ## `emitMrk`: `EmitMrk` writes the MRK stream only (R104). -/

@[simp] theorem emitMrk_cfgBitRateHz (c : MarkerClass) (b : Bit) (n : Sample) (s : State) : (emitMrk c b n s).cfgBitRateHz = s.cfgBitRateHz := rfl
@[simp] theorem emitMrk_cfgSampleRateHz (c : MarkerClass) (b : Bit) (n : Sample) (s : State) : (emitMrk c b n s).cfgSampleRateHz = s.cfgSampleRateHz := rfl
@[simp] theorem emitMrk_cfgInverted (c : MarkerClass) (b : Bit) (n : Sample) (s : State) : (emitMrk c b n s).cfgInverted = s.cfgInverted := rfl
@[simp] theorem emitMrk_samplesPerBit (c : MarkerClass) (b : Bit) (n : Sample) (s : State) : (emitMrk c b n s).samplesPerBit = s.samplesPerBit := rfl
@[simp] theorem emitMrk_mode (c : MarkerClass) (b : Bit) (n : Sample) (s : State) : (emitMrk c b n s).mode = s.mode := rfl
@[simp] theorem emitMrk_faultCode (c : MarkerClass) (b : Bit) (n : Sample) (s : State) : (emitMrk c b n s).faultCode = s.faultCode := rfl
@[simp] theorem emitMrk_errCause (c : MarkerClass) (b : Bit) (n : Sample) (s : State) : (emitMrk c b n s).errCause = s.errCause := rfl
@[simp] theorem emitMrk_errStartSample (c : MarkerClass) (b : Bit) (n : Sample) (s : State) : (emitMrk c b n s).errStartSample = s.errStartSample := rfl
@[simp] theorem emitMrk_armed (c : MarkerClass) (b : Bit) (n : Sample) (s : State) : (emitMrk c b n s).armed = s.armed := rfl
@[simp] theorem emitMrk_state (c : MarkerClass) (b : Bit) (n : Sample) (s : State) : (emitMrk c b n s).state = s.state := rfl
@[simp] theorem emitMrk_fieldBitIndex (c : MarkerClass) (b : Bit) (n : Sample) (s : State) : (emitMrk c b n s).fieldBitIndex = s.fieldBitIndex := rfl
@[simp] theorem emitMrk_destuffActive (c : MarkerClass) (b : Bit) (n : Sample) (s : State) : (emitMrk c b n s).destuffActive = s.destuffActive := rfl
@[simp] theorem emitMrk_lastBit (c : MarkerClass) (b : Bit) (n : Sample) (s : State) : (emitMrk c b n s).lastBit = s.lastBit := rfl
@[simp] theorem emitMrk_runLength (c : MarkerClass) (b : Bit) (n : Sample) (s : State) : (emitMrk c b n s).runLength = s.runLength := rfl
@[simp] theorem emitMrk_isData (c : MarkerClass) (b : Bit) (n : Sample) (s : State) : (emitMrk c b n s).isData = s.isData := rfl
@[simp] theorem emitMrk_isExtended (c : MarkerClass) (b : Bit) (n : Sample) (s : State) : (emitMrk c b n s).isExtended = s.isExtended := rfl
@[simp] theorem emitMrk_ackNacked (c : MarkerClass) (b : Bit) (n : Sample) (s : State) : (emitMrk c b n s).ackNacked = s.ackNacked := rfl
@[simp] theorem emitMrk_identifier (c : MarkerClass) (b : Bit) (n : Sample) (s : State) : (emitMrk c b n s).identifier = s.identifier := rfl
@[simp] theorem emitMrk_dlc (c : MarkerClass) (b : Bit) (n : Sample) (s : State) : (emitMrk c b n s).dlc = s.dlc := rfl
@[simp] theorem emitMrk_dataLen (c : MarkerClass) (b : Bit) (n : Sample) (s : State) : (emitMrk c b n s).dataLen = s.dataLen := rfl
@[simp] theorem emitMrk_crc (c : MarkerClass) (b : Bit) (n : Sample) (s : State) : (emitMrk c b n s).crc = s.crc := rfl
@[simp] theorem emitMrk_crcSnapshot (c : MarkerClass) (b : Bit) (n : Sample) (s : State) : (emitMrk c b n s).crcSnapshot = s.crcSnapshot := rfl
@[simp] theorem emitMrk_crcRx (c : MarkerClass) (b : Bit) (n : Sample) (s : State) : (emitMrk c b n s).crcRx = s.crcRx := rfl
@[simp] theorem emitMrk_stuffBitCount (c : MarkerClass) (b : Bit) (n : Sample) (s : State) : (emitMrk c b n s).stuffBitCount = s.stuffBitCount := rfl
@[simp] theorem emitMrk_sofSample (c : MarkerClass) (b : Bit) (n : Sample) (s : State) : (emitMrk c b n s).sofSample = s.sofSample := rfl
@[simp] theorem emitMrk_fieldStartSample (c : MarkerClass) (b : Bit) (n : Sample) (s : State) : (emitMrk c b n s).fieldStartSample = s.fieldStartSample := rfl
@[simp] theorem emitMrk_data (c : MarkerClass) (b : Bit) (n : Sample) (s : State) : (emitMrk c b n s).data = s.data := rfl
@[simp] theorem emitMrk_cmdIn (c : MarkerClass) (b : Bit) (n : Sample) (s : State) : (emitMrk c b n s).cmdIn = s.cmdIn := rfl
@[simp] theorem emitMrk_recOut (c : MarkerClass) (b : Bit) (n : Sample) (s : State) : (emitMrk c b n s).recOut = s.recOut := rfl
@[simp] theorem emitMrk_mrkOut (c : MarkerClass) (b : Bit) (n : Sample) (s : State) : (emitMrk c b n s).mrkOut = s.markersWith c b n := rfl
@[simp] theorem emitMrk_hasMarkers (c : MarkerClass) (b : Bit) (n : Sample) (s : State) : (emitMrk c b n s).hasMarkers = s.hasMarkers := rfl

/-! ## `goto`: `Goto` writes the position only (R13). -/

@[simp] theorem goto_cfgBitRateHz (x : FieldState) (s : State) : (goto x s).cfgBitRateHz = s.cfgBitRateHz := rfl
@[simp] theorem goto_cfgSampleRateHz (x : FieldState) (s : State) : (goto x s).cfgSampleRateHz = s.cfgSampleRateHz := rfl
@[simp] theorem goto_cfgInverted (x : FieldState) (s : State) : (goto x s).cfgInverted = s.cfgInverted := rfl
@[simp] theorem goto_samplesPerBit (x : FieldState) (s : State) : (goto x s).samplesPerBit = s.samplesPerBit := rfl
@[simp] theorem goto_mode (x : FieldState) (s : State) : (goto x s).mode = s.mode := rfl
@[simp] theorem goto_faultCode (x : FieldState) (s : State) : (goto x s).faultCode = s.faultCode := rfl
@[simp] theorem goto_errCause (x : FieldState) (s : State) : (goto x s).errCause = s.errCause := rfl
@[simp] theorem goto_errStartSample (x : FieldState) (s : State) : (goto x s).errStartSample = s.errStartSample := rfl
@[simp] theorem goto_armed (x : FieldState) (s : State) : (goto x s).armed = s.armed := rfl
@[simp] theorem goto_state (x : FieldState) (s : State) : (goto x s).state = x := rfl
@[simp] theorem goto_fieldBitIndex (x : FieldState) (s : State) : (goto x s).fieldBitIndex = 0 := rfl
@[simp] theorem goto_destuffActive (x : FieldState) (s : State) : (goto x s).destuffActive = s.destuffActive := rfl
@[simp] theorem goto_lastBit (x : FieldState) (s : State) : (goto x s).lastBit = s.lastBit := rfl
@[simp] theorem goto_runLength (x : FieldState) (s : State) : (goto x s).runLength = s.runLength := rfl
@[simp] theorem goto_isData (x : FieldState) (s : State) : (goto x s).isData = s.isData := rfl
@[simp] theorem goto_isExtended (x : FieldState) (s : State) : (goto x s).isExtended = s.isExtended := rfl
@[simp] theorem goto_ackNacked (x : FieldState) (s : State) : (goto x s).ackNacked = s.ackNacked := rfl
@[simp] theorem goto_identifier (x : FieldState) (s : State) : (goto x s).identifier = s.identifier := rfl
@[simp] theorem goto_dlc (x : FieldState) (s : State) : (goto x s).dlc = s.dlc := rfl
@[simp] theorem goto_dataLen (x : FieldState) (s : State) : (goto x s).dataLen = s.dataLen := rfl
@[simp] theorem goto_crc (x : FieldState) (s : State) : (goto x s).crc = s.crc := rfl
@[simp] theorem goto_crcSnapshot (x : FieldState) (s : State) : (goto x s).crcSnapshot = s.crcSnapshot := rfl
@[simp] theorem goto_crcRx (x : FieldState) (s : State) : (goto x s).crcRx = s.crcRx := rfl
@[simp] theorem goto_stuffBitCount (x : FieldState) (s : State) : (goto x s).stuffBitCount = s.stuffBitCount := rfl
@[simp] theorem goto_sofSample (x : FieldState) (s : State) : (goto x s).sofSample = s.sofSample := rfl
@[simp] theorem goto_fieldStartSample (x : FieldState) (s : State) : (goto x s).fieldStartSample = s.fieldStartSample := rfl
@[simp] theorem goto_data (x : FieldState) (s : State) : (goto x s).data = s.data := rfl
@[simp] theorem goto_cmdIn (x : FieldState) (s : State) : (goto x s).cmdIn = s.cmdIn := rfl
@[simp] theorem goto_recOut (x : FieldState) (s : State) : (goto x s).recOut = s.recOut := rfl
@[simp] theorem goto_mrkOut (x : FieldState) (s : State) : (goto x s).mrkOut = s.mrkOut := rfl
@[simp] theorem goto_hasMarkers (x : FieldState) (s : State) : (goto x s).hasMarkers = s.hasMarkers := rfl

/-! ## `stay`: A handler that stays writes the index only (R180). -/

@[simp] theorem stay_cfgBitRateHz (s : State) : (stay s).cfgBitRateHz = s.cfgBitRateHz := rfl
@[simp] theorem stay_cfgSampleRateHz (s : State) : (stay s).cfgSampleRateHz = s.cfgSampleRateHz := rfl
@[simp] theorem stay_cfgInverted (s : State) : (stay s).cfgInverted = s.cfgInverted := rfl
@[simp] theorem stay_samplesPerBit (s : State) : (stay s).samplesPerBit = s.samplesPerBit := rfl
@[simp] theorem stay_mode (s : State) : (stay s).mode = s.mode := rfl
@[simp] theorem stay_faultCode (s : State) : (stay s).faultCode = s.faultCode := rfl
@[simp] theorem stay_errCause (s : State) : (stay s).errCause = s.errCause := rfl
@[simp] theorem stay_errStartSample (s : State) : (stay s).errStartSample = s.errStartSample := rfl
@[simp] theorem stay_armed (s : State) : (stay s).armed = s.armed := rfl
@[simp] theorem stay_state (s : State) : (stay s).state = s.state := rfl
@[simp] theorem stay_fieldBitIndex (s : State) : (stay s).fieldBitIndex = s.fieldBitIndex + 1 := rfl
@[simp] theorem stay_destuffActive (s : State) : (stay s).destuffActive = s.destuffActive := rfl
@[simp] theorem stay_lastBit (s : State) : (stay s).lastBit = s.lastBit := rfl
@[simp] theorem stay_runLength (s : State) : (stay s).runLength = s.runLength := rfl
@[simp] theorem stay_isData (s : State) : (stay s).isData = s.isData := rfl
@[simp] theorem stay_isExtended (s : State) : (stay s).isExtended = s.isExtended := rfl
@[simp] theorem stay_ackNacked (s : State) : (stay s).ackNacked = s.ackNacked := rfl
@[simp] theorem stay_identifier (s : State) : (stay s).identifier = s.identifier := rfl
@[simp] theorem stay_dlc (s : State) : (stay s).dlc = s.dlc := rfl
@[simp] theorem stay_dataLen (s : State) : (stay s).dataLen = s.dataLen := rfl
@[simp] theorem stay_crc (s : State) : (stay s).crc = s.crc := rfl
@[simp] theorem stay_crcSnapshot (s : State) : (stay s).crcSnapshot = s.crcSnapshot := rfl
@[simp] theorem stay_crcRx (s : State) : (stay s).crcRx = s.crcRx := rfl
@[simp] theorem stay_stuffBitCount (s : State) : (stay s).stuffBitCount = s.stuffBitCount := rfl
@[simp] theorem stay_sofSample (s : State) : (stay s).sofSample = s.sofSample := rfl
@[simp] theorem stay_fieldStartSample (s : State) : (stay s).fieldStartSample = s.fieldStartSample := rfl
@[simp] theorem stay_data (s : State) : (stay s).data = s.data := rfl
@[simp] theorem stay_cmdIn (s : State) : (stay s).cmdIn = s.cmdIn := rfl
@[simp] theorem stay_recOut (s : State) : (stay s).recOut = s.recOut := rfl
@[simp] theorem stay_mrkOut (s : State) : (stay s).mrkOut = s.mrkOut := rfl
@[simp] theorem stay_hasMarkers (s : State) : (stay s).hasMarkers = s.hasMarkers := rfl

/-! ## `idleConfig`: `IdleConfig` writes every DecoderState register and no other (R48). -/

@[simp] theorem idleConfig_cfgBitRateHz (s : State) : (idleConfig s).cfgBitRateHz = s.cfgBitRateHz := rfl
@[simp] theorem idleConfig_cfgSampleRateHz (s : State) : (idleConfig s).cfgSampleRateHz = s.cfgSampleRateHz := rfl
@[simp] theorem idleConfig_cfgInverted (s : State) : (idleConfig s).cfgInverted = s.cfgInverted := rfl
@[simp] theorem idleConfig_samplesPerBit (s : State) : (idleConfig s).samplesPerBit = s.samplesPerBit := rfl
@[simp] theorem idleConfig_mode (s : State) : (idleConfig s).mode = s.mode := rfl
@[simp] theorem idleConfig_faultCode (s : State) : (idleConfig s).faultCode = s.faultCode := rfl
@[simp] theorem idleConfig_errCause (s : State) : (idleConfig s).errCause = s.errCause := rfl
@[simp] theorem idleConfig_errStartSample (s : State) : (idleConfig s).errStartSample = s.errStartSample := rfl
@[simp] theorem idleConfig_armed (s : State) : (idleConfig s).armed = s.armed := rfl
@[simp] theorem idleConfig_state (s : State) : (idleConfig s).state = .idle := rfl
@[simp] theorem idleConfig_fieldBitIndex (s : State) : (idleConfig s).fieldBitIndex = 0 := rfl
@[simp] theorem idleConfig_destuffActive (s : State) : (idleConfig s).destuffActive = false := rfl
@[simp] theorem idleConfig_lastBit (s : State) : (idleConfig s).lastBit = true := rfl
@[simp] theorem idleConfig_runLength (s : State) : (idleConfig s).runLength = 0 := rfl
@[simp] theorem idleConfig_isData (s : State) : (idleConfig s).isData = true := rfl
@[simp] theorem idleConfig_isExtended (s : State) : (idleConfig s).isExtended = false := rfl
@[simp] theorem idleConfig_ackNacked (s : State) : (idleConfig s).ackNacked = false := rfl
@[simp] theorem idleConfig_identifier (s : State) : (idleConfig s).identifier = 0 := rfl
@[simp] theorem idleConfig_dlc (s : State) : (idleConfig s).dlc = 0 := rfl
@[simp] theorem idleConfig_dataLen (s : State) : (idleConfig s).dataLen = 0 := rfl
@[simp] theorem idleConfig_crc (s : State) : (idleConfig s).crc = 0 := rfl
@[simp] theorem idleConfig_crcSnapshot (s : State) : (idleConfig s).crcSnapshot = 0 := rfl
@[simp] theorem idleConfig_crcRx (s : State) : (idleConfig s).crcRx = 0 := rfl
@[simp] theorem idleConfig_stuffBitCount (s : State) : (idleConfig s).stuffBitCount = 0 := rfl
@[simp] theorem idleConfig_sofSample (s : State) : (idleConfig s).sofSample = 0 := rfl
@[simp] theorem idleConfig_fieldStartSample (s : State) : (idleConfig s).fieldStartSample = 0 := rfl
@[simp] theorem idleConfig_data (s : State) : (idleConfig s).data = .zero := rfl
@[simp] theorem idleConfig_cmdIn (s : State) : (idleConfig s).cmdIn = s.cmdIn := rfl
@[simp] theorem idleConfig_recOut (s : State) : (idleConfig s).recOut = s.recOut := rfl
@[simp] theorem idleConfig_mrkOut (s : State) : (idleConfig s).mrkOut = s.mrkOut := rfl
@[simp] theorem idleConfig_hasMarkers (s : State) : (idleConfig s).hasMarkers = s.hasMarkers := rfl

/-! ## `refuse`: `Refuse` writes the mode and the fault code only (R121). -/

@[simp] theorem refuse_cfgBitRateHz (c : FaultCode) (s : State) : (refuse c s).cfgBitRateHz = s.cfgBitRateHz := rfl
@[simp] theorem refuse_cfgSampleRateHz (c : FaultCode) (s : State) : (refuse c s).cfgSampleRateHz = s.cfgSampleRateHz := rfl
@[simp] theorem refuse_cfgInverted (c : FaultCode) (s : State) : (refuse c s).cfgInverted = s.cfgInverted := rfl
@[simp] theorem refuse_samplesPerBit (c : FaultCode) (s : State) : (refuse c s).samplesPerBit = s.samplesPerBit := rfl
@[simp] theorem refuse_mode (c : FaultCode) (s : State) : (refuse c s).mode = .fault := rfl
@[simp] theorem refuse_faultCode (c : FaultCode) (s : State) : (refuse c s).faultCode = c := rfl
@[simp] theorem refuse_errCause (c : FaultCode) (s : State) : (refuse c s).errCause = s.errCause := rfl
@[simp] theorem refuse_errStartSample (c : FaultCode) (s : State) : (refuse c s).errStartSample = s.errStartSample := rfl
@[simp] theorem refuse_armed (c : FaultCode) (s : State) : (refuse c s).armed = s.armed := rfl
@[simp] theorem refuse_state (c : FaultCode) (s : State) : (refuse c s).state = s.state := rfl
@[simp] theorem refuse_fieldBitIndex (c : FaultCode) (s : State) : (refuse c s).fieldBitIndex = s.fieldBitIndex := rfl
@[simp] theorem refuse_destuffActive (c : FaultCode) (s : State) : (refuse c s).destuffActive = s.destuffActive := rfl
@[simp] theorem refuse_lastBit (c : FaultCode) (s : State) : (refuse c s).lastBit = s.lastBit := rfl
@[simp] theorem refuse_runLength (c : FaultCode) (s : State) : (refuse c s).runLength = s.runLength := rfl
@[simp] theorem refuse_isData (c : FaultCode) (s : State) : (refuse c s).isData = s.isData := rfl
@[simp] theorem refuse_isExtended (c : FaultCode) (s : State) : (refuse c s).isExtended = s.isExtended := rfl
@[simp] theorem refuse_ackNacked (c : FaultCode) (s : State) : (refuse c s).ackNacked = s.ackNacked := rfl
@[simp] theorem refuse_identifier (c : FaultCode) (s : State) : (refuse c s).identifier = s.identifier := rfl
@[simp] theorem refuse_dlc (c : FaultCode) (s : State) : (refuse c s).dlc = s.dlc := rfl
@[simp] theorem refuse_dataLen (c : FaultCode) (s : State) : (refuse c s).dataLen = s.dataLen := rfl
@[simp] theorem refuse_crc (c : FaultCode) (s : State) : (refuse c s).crc = s.crc := rfl
@[simp] theorem refuse_crcSnapshot (c : FaultCode) (s : State) : (refuse c s).crcSnapshot = s.crcSnapshot := rfl
@[simp] theorem refuse_crcRx (c : FaultCode) (s : State) : (refuse c s).crcRx = s.crcRx := rfl
@[simp] theorem refuse_stuffBitCount (c : FaultCode) (s : State) : (refuse c s).stuffBitCount = s.stuffBitCount := rfl
@[simp] theorem refuse_sofSample (c : FaultCode) (s : State) : (refuse c s).sofSample = s.sofSample := rfl
@[simp] theorem refuse_fieldStartSample (c : FaultCode) (s : State) : (refuse c s).fieldStartSample = s.fieldStartSample := rfl
@[simp] theorem refuse_data (c : FaultCode) (s : State) : (refuse c s).data = s.data := rfl
@[simp] theorem refuse_cmdIn (c : FaultCode) (s : State) : (refuse c s).cmdIn = s.cmdIn := rfl
@[simp] theorem refuse_recOut (c : FaultCode) (s : State) : (refuse c s).recOut = s.recOut := rfl
@[simp] theorem refuse_mrkOut (c : FaultCode) (s : State) : (refuse c s).mrkOut = s.mrkOut := rfl
@[simp] theorem refuse_hasMarkers (c : FaultCode) (s : State) : (refuse c s).hasMarkers = s.hasMarkers := rfl

/-! ## `enterError`: `EnterError` writes the position, `destuffActive` and what is saved (R268). -/

@[simp] theorem enterError_cfgBitRateHz (c : Cause) (n : Sample) (s : State) : (enterError c n s).cfgBitRateHz = s.cfgBitRateHz := rfl
@[simp] theorem enterError_cfgSampleRateHz (c : Cause) (n : Sample) (s : State) : (enterError c n s).cfgSampleRateHz = s.cfgSampleRateHz := rfl
@[simp] theorem enterError_cfgInverted (c : Cause) (n : Sample) (s : State) : (enterError c n s).cfgInverted = s.cfgInverted := rfl
@[simp] theorem enterError_samplesPerBit (c : Cause) (n : Sample) (s : State) : (enterError c n s).samplesPerBit = s.samplesPerBit := rfl
@[simp] theorem enterError_mode (c : Cause) (n : Sample) (s : State) : (enterError c n s).mode = s.mode := rfl
@[simp] theorem enterError_faultCode (c : Cause) (n : Sample) (s : State) : (enterError c n s).faultCode = s.faultCode := rfl
@[simp] theorem enterError_errCause (c : Cause) (n : Sample) (s : State) : (enterError c n s).errCause = c := rfl
@[simp] theorem enterError_errStartSample (c : Cause) (n : Sample) (s : State) : (enterError c n s).errStartSample = n := rfl
@[simp] theorem enterError_armed (c : Cause) (n : Sample) (s : State) : (enterError c n s).armed = s.armed := rfl
@[simp] theorem enterError_state (c : Cause) (n : Sample) (s : State) : (enterError c n s).state = .decoderError := rfl
@[simp] theorem enterError_fieldBitIndex (c : Cause) (n : Sample) (s : State) : (enterError c n s).fieldBitIndex = 0 := rfl
@[simp] theorem enterError_destuffActive (c : Cause) (n : Sample) (s : State) : (enterError c n s).destuffActive = false := rfl
@[simp] theorem enterError_lastBit (c : Cause) (n : Sample) (s : State) : (enterError c n s).lastBit = s.lastBit := rfl
@[simp] theorem enterError_runLength (c : Cause) (n : Sample) (s : State) : (enterError c n s).runLength = s.runLength := rfl
@[simp] theorem enterError_isData (c : Cause) (n : Sample) (s : State) : (enterError c n s).isData = s.isData := rfl
@[simp] theorem enterError_isExtended (c : Cause) (n : Sample) (s : State) : (enterError c n s).isExtended = s.isExtended := rfl
@[simp] theorem enterError_ackNacked (c : Cause) (n : Sample) (s : State) : (enterError c n s).ackNacked = s.ackNacked := rfl
@[simp] theorem enterError_identifier (c : Cause) (n : Sample) (s : State) : (enterError c n s).identifier = s.identifier := rfl
@[simp] theorem enterError_dlc (c : Cause) (n : Sample) (s : State) : (enterError c n s).dlc = s.dlc := rfl
@[simp] theorem enterError_dataLen (c : Cause) (n : Sample) (s : State) : (enterError c n s).dataLen = s.dataLen := rfl
@[simp] theorem enterError_crc (c : Cause) (n : Sample) (s : State) : (enterError c n s).crc = s.crc := rfl
@[simp] theorem enterError_crcSnapshot (c : Cause) (n : Sample) (s : State) : (enterError c n s).crcSnapshot = s.crcSnapshot := rfl
@[simp] theorem enterError_crcRx (c : Cause) (n : Sample) (s : State) : (enterError c n s).crcRx = s.crcRx := rfl
@[simp] theorem enterError_stuffBitCount (c : Cause) (n : Sample) (s : State) : (enterError c n s).stuffBitCount = s.stuffBitCount := rfl
@[simp] theorem enterError_sofSample (c : Cause) (n : Sample) (s : State) : (enterError c n s).sofSample = s.sofSample := rfl
@[simp] theorem enterError_fieldStartSample (c : Cause) (n : Sample) (s : State) : (enterError c n s).fieldStartSample = s.fieldStartSample := rfl
@[simp] theorem enterError_data (c : Cause) (n : Sample) (s : State) : (enterError c n s).data = s.data := rfl
@[simp] theorem enterError_cmdIn (c : Cause) (n : Sample) (s : State) : (enterError c n s).cmdIn = s.cmdIn := rfl
@[simp] theorem enterError_recOut (c : Cause) (n : Sample) (s : State) : (enterError c n s).recOut = s.recOut := rfl
@[simp] theorem enterError_mrkOut (c : Cause) (n : Sample) (s : State) : (enterError c n s).mrkOut = s.mrkOut := rfl
@[simp] theorem enterError_hasMarkers (c : Cause) (n : Sample) (s : State) : (enterError c n s).hasMarkers = s.hasMarkers := rfl

/-! ## `recoveryExit`: The recovery exit emits the summary record and restores the idle configuration (R246). -/

@[simp] theorem recoveryExit_cfgBitRateHz (n : Sample) (s : State) : (recoveryExit n s).cfgBitRateHz = s.cfgBitRateHz := rfl
@[simp] theorem recoveryExit_cfgSampleRateHz (n : Sample) (s : State) : (recoveryExit n s).cfgSampleRateHz = s.cfgSampleRateHz := rfl
@[simp] theorem recoveryExit_cfgInverted (n : Sample) (s : State) : (recoveryExit n s).cfgInverted = s.cfgInverted := rfl
@[simp] theorem recoveryExit_samplesPerBit (n : Sample) (s : State) : (recoveryExit n s).samplesPerBit = s.samplesPerBit := rfl
@[simp] theorem recoveryExit_mode (n : Sample) (s : State) : (recoveryExit n s).mode = s.mode := rfl
@[simp] theorem recoveryExit_faultCode (n : Sample) (s : State) : (recoveryExit n s).faultCode = s.faultCode := rfl
@[simp] theorem recoveryExit_errCause (n : Sample) (s : State) : (recoveryExit n s).errCause = s.errCause := rfl
@[simp] theorem recoveryExit_errStartSample (n : Sample) (s : State) : (recoveryExit n s).errStartSample = s.errStartSample := rfl
@[simp] theorem recoveryExit_armed (n : Sample) (s : State) : (recoveryExit n s).armed = s.armed := rfl
@[simp] theorem recoveryExit_state (n : Sample) (s : State) : (recoveryExit n s).state = .idle := rfl
@[simp] theorem recoveryExit_fieldBitIndex (n : Sample) (s : State) : (recoveryExit n s).fieldBitIndex = 0 := rfl
@[simp] theorem recoveryExit_destuffActive (n : Sample) (s : State) : (recoveryExit n s).destuffActive = false := rfl
@[simp] theorem recoveryExit_lastBit (n : Sample) (s : State) : (recoveryExit n s).lastBit = true := rfl
@[simp] theorem recoveryExit_runLength (n : Sample) (s : State) : (recoveryExit n s).runLength = 0 := rfl
@[simp] theorem recoveryExit_isData (n : Sample) (s : State) : (recoveryExit n s).isData = true := rfl
@[simp] theorem recoveryExit_isExtended (n : Sample) (s : State) : (recoveryExit n s).isExtended = false := rfl
@[simp] theorem recoveryExit_ackNacked (n : Sample) (s : State) : (recoveryExit n s).ackNacked = false := rfl
@[simp] theorem recoveryExit_identifier (n : Sample) (s : State) : (recoveryExit n s).identifier = 0 := rfl
@[simp] theorem recoveryExit_dlc (n : Sample) (s : State) : (recoveryExit n s).dlc = 0 := rfl
@[simp] theorem recoveryExit_dataLen (n : Sample) (s : State) : (recoveryExit n s).dataLen = 0 := rfl
@[simp] theorem recoveryExit_crc (n : Sample) (s : State) : (recoveryExit n s).crc = 0 := rfl
@[simp] theorem recoveryExit_crcSnapshot (n : Sample) (s : State) : (recoveryExit n s).crcSnapshot = 0 := rfl
@[simp] theorem recoveryExit_crcRx (n : Sample) (s : State) : (recoveryExit n s).crcRx = 0 := rfl
@[simp] theorem recoveryExit_stuffBitCount (n : Sample) (s : State) : (recoveryExit n s).stuffBitCount = 0 := rfl
@[simp] theorem recoveryExit_sofSample (n : Sample) (s : State) : (recoveryExit n s).sofSample = 0 := rfl
@[simp] theorem recoveryExit_fieldStartSample (n : Sample) (s : State) : (recoveryExit n s).fieldStartSample = 0 := rfl
@[simp] theorem recoveryExit_data (n : Sample) (s : State) : (recoveryExit n s).data = .zero := rfl
@[simp] theorem recoveryExit_cmdIn (n : Sample) (s : State) : (recoveryExit n s).cmdIn = s.cmdIn := rfl
@[simp] theorem recoveryExit_recOut (n : Sample) (s : State) : (recoveryExit n s).recOut = s.recOut ++ [⟨.decodeError, 0, 0, s.errStartSample, n⟩] := rfl
@[simp] theorem recoveryExit_mrkOut (n : Sample) (s : State) : (recoveryExit n s).mrkOut = s.mrkOut := rfl
@[simp] theorem recoveryExit_hasMarkers (n : Sample) (s : State) : (recoveryExit n s).hasMarkers = s.hasMarkers := rfl

/-! ## `trackSame`: Counting one more bit of the same value (R164). -/

@[simp] theorem trackSame_cfgBitRateHz (s : State) : (trackSame s).cfgBitRateHz = s.cfgBitRateHz := rfl
@[simp] theorem trackSame_cfgSampleRateHz (s : State) : (trackSame s).cfgSampleRateHz = s.cfgSampleRateHz := rfl
@[simp] theorem trackSame_cfgInverted (s : State) : (trackSame s).cfgInverted = s.cfgInverted := rfl
@[simp] theorem trackSame_samplesPerBit (s : State) : (trackSame s).samplesPerBit = s.samplesPerBit := rfl
@[simp] theorem trackSame_mode (s : State) : (trackSame s).mode = s.mode := rfl
@[simp] theorem trackSame_faultCode (s : State) : (trackSame s).faultCode = s.faultCode := rfl
@[simp] theorem trackSame_errCause (s : State) : (trackSame s).errCause = s.errCause := rfl
@[simp] theorem trackSame_errStartSample (s : State) : (trackSame s).errStartSample = s.errStartSample := rfl
@[simp] theorem trackSame_armed (s : State) : (trackSame s).armed = s.armed := rfl
@[simp] theorem trackSame_state (s : State) : (trackSame s).state = s.state := rfl
@[simp] theorem trackSame_fieldBitIndex (s : State) : (trackSame s).fieldBitIndex = s.fieldBitIndex := rfl
@[simp] theorem trackSame_destuffActive (s : State) : (trackSame s).destuffActive = s.destuffActive := rfl
@[simp] theorem trackSame_lastBit (s : State) : (trackSame s).lastBit = s.lastBit := rfl
@[simp] theorem trackSame_runLength (s : State) : (trackSame s).runLength = runNext s.runLength := rfl
@[simp] theorem trackSame_isData (s : State) : (trackSame s).isData = s.isData := rfl
@[simp] theorem trackSame_isExtended (s : State) : (trackSame s).isExtended = s.isExtended := rfl
@[simp] theorem trackSame_ackNacked (s : State) : (trackSame s).ackNacked = s.ackNacked := rfl
@[simp] theorem trackSame_identifier (s : State) : (trackSame s).identifier = s.identifier := rfl
@[simp] theorem trackSame_dlc (s : State) : (trackSame s).dlc = s.dlc := rfl
@[simp] theorem trackSame_dataLen (s : State) : (trackSame s).dataLen = s.dataLen := rfl
@[simp] theorem trackSame_crc (s : State) : (trackSame s).crc = s.crc := rfl
@[simp] theorem trackSame_crcSnapshot (s : State) : (trackSame s).crcSnapshot = s.crcSnapshot := rfl
@[simp] theorem trackSame_crcRx (s : State) : (trackSame s).crcRx = s.crcRx := rfl
@[simp] theorem trackSame_stuffBitCount (s : State) : (trackSame s).stuffBitCount = s.stuffBitCount := rfl
@[simp] theorem trackSame_sofSample (s : State) : (trackSame s).sofSample = s.sofSample := rfl
@[simp] theorem trackSame_fieldStartSample (s : State) : (trackSame s).fieldStartSample = s.fieldStartSample := rfl
@[simp] theorem trackSame_data (s : State) : (trackSame s).data = s.data := rfl
@[simp] theorem trackSame_cmdIn (s : State) : (trackSame s).cmdIn = s.cmdIn := rfl
@[simp] theorem trackSame_recOut (s : State) : (trackSame s).recOut = s.recOut := rfl
@[simp] theorem trackSame_mrkOut (s : State) : (trackSame s).mrkOut = s.mrkOut := rfl
@[simp] theorem trackSame_hasMarkers (s : State) : (trackSame s).hasMarkers = s.hasMarkers := rfl

/-! ## `trackRestart`: Starting a run (R165). -/

@[simp] theorem trackRestart_cfgBitRateHz (b : Bit) (s : State) : (trackRestart b s).cfgBitRateHz = s.cfgBitRateHz := rfl
@[simp] theorem trackRestart_cfgSampleRateHz (b : Bit) (s : State) : (trackRestart b s).cfgSampleRateHz = s.cfgSampleRateHz := rfl
@[simp] theorem trackRestart_cfgInverted (b : Bit) (s : State) : (trackRestart b s).cfgInverted = s.cfgInverted := rfl
@[simp] theorem trackRestart_samplesPerBit (b : Bit) (s : State) : (trackRestart b s).samplesPerBit = s.samplesPerBit := rfl
@[simp] theorem trackRestart_mode (b : Bit) (s : State) : (trackRestart b s).mode = s.mode := rfl
@[simp] theorem trackRestart_faultCode (b : Bit) (s : State) : (trackRestart b s).faultCode = s.faultCode := rfl
@[simp] theorem trackRestart_errCause (b : Bit) (s : State) : (trackRestart b s).errCause = s.errCause := rfl
@[simp] theorem trackRestart_errStartSample (b : Bit) (s : State) : (trackRestart b s).errStartSample = s.errStartSample := rfl
@[simp] theorem trackRestart_armed (b : Bit) (s : State) : (trackRestart b s).armed = s.armed := rfl
@[simp] theorem trackRestart_state (b : Bit) (s : State) : (trackRestart b s).state = s.state := rfl
@[simp] theorem trackRestart_fieldBitIndex (b : Bit) (s : State) : (trackRestart b s).fieldBitIndex = s.fieldBitIndex := rfl
@[simp] theorem trackRestart_destuffActive (b : Bit) (s : State) : (trackRestart b s).destuffActive = s.destuffActive := rfl
@[simp] theorem trackRestart_lastBit (b : Bit) (s : State) : (trackRestart b s).lastBit = b := rfl
@[simp] theorem trackRestart_runLength (b : Bit) (s : State) : (trackRestart b s).runLength = 1 := rfl
@[simp] theorem trackRestart_isData (b : Bit) (s : State) : (trackRestart b s).isData = s.isData := rfl
@[simp] theorem trackRestart_isExtended (b : Bit) (s : State) : (trackRestart b s).isExtended = s.isExtended := rfl
@[simp] theorem trackRestart_ackNacked (b : Bit) (s : State) : (trackRestart b s).ackNacked = s.ackNacked := rfl
@[simp] theorem trackRestart_identifier (b : Bit) (s : State) : (trackRestart b s).identifier = s.identifier := rfl
@[simp] theorem trackRestart_dlc (b : Bit) (s : State) : (trackRestart b s).dlc = s.dlc := rfl
@[simp] theorem trackRestart_dataLen (b : Bit) (s : State) : (trackRestart b s).dataLen = s.dataLen := rfl
@[simp] theorem trackRestart_crc (b : Bit) (s : State) : (trackRestart b s).crc = s.crc := rfl
@[simp] theorem trackRestart_crcSnapshot (b : Bit) (s : State) : (trackRestart b s).crcSnapshot = s.crcSnapshot := rfl
@[simp] theorem trackRestart_crcRx (b : Bit) (s : State) : (trackRestart b s).crcRx = s.crcRx := rfl
@[simp] theorem trackRestart_stuffBitCount (b : Bit) (s : State) : (trackRestart b s).stuffBitCount = s.stuffBitCount := rfl
@[simp] theorem trackRestart_sofSample (b : Bit) (s : State) : (trackRestart b s).sofSample = s.sofSample := rfl
@[simp] theorem trackRestart_fieldStartSample (b : Bit) (s : State) : (trackRestart b s).fieldStartSample = s.fieldStartSample := rfl
@[simp] theorem trackRestart_data (b : Bit) (s : State) : (trackRestart b s).data = s.data := rfl
@[simp] theorem trackRestart_cmdIn (b : Bit) (s : State) : (trackRestart b s).cmdIn = s.cmdIn := rfl
@[simp] theorem trackRestart_recOut (b : Bit) (s : State) : (trackRestart b s).recOut = s.recOut := rfl
@[simp] theorem trackRestart_mrkOut (b : Bit) (s : State) : (trackRestart b s).mrkOut = s.mrkOut := rfl
@[simp] theorem trackRestart_hasMarkers (b : Bit) (s : State) : (trackRestart b s).hasMarkers = s.hasMarkers := rfl

/-! ## `configure`: An accepted CONFIG (R124). -/

@[simp] theorem configure_cfgBitRateHz (i : Bool) (r : BitVec 32) (f : BitVec 20) (s : State) : (configure i r f s).cfgBitRateHz = f := rfl
@[simp] theorem configure_cfgSampleRateHz (i : Bool) (r : BitVec 32) (f : BitVec 20) (s : State) : (configure i r f s).cfgSampleRateHz = r := rfl
@[simp] theorem configure_cfgInverted (i : Bool) (r : BitVec 32) (f : BitVec 20) (s : State) : (configure i r f s).cfgInverted = i := rfl
@[simp] theorem configure_samplesPerBit (i : Bool) (r : BitVec 32) (f : BitVec 20) (s : State) : (configure i r f s).samplesPerBit = BitVec.ofNat 32 (r.toNat / f.toNat) := rfl
@[simp] theorem configure_mode (i : Bool) (r : BitVec 32) (f : BitVec 20) (s : State) : (configure i r f s).mode = .run := rfl
@[simp] theorem configure_faultCode (i : Bool) (r : BitVec 32) (f : BitVec 20) (s : State) : (configure i r f s).faultCode = s.faultCode := rfl
@[simp] theorem configure_errCause (i : Bool) (r : BitVec 32) (f : BitVec 20) (s : State) : (configure i r f s).errCause = .none := rfl
@[simp] theorem configure_errStartSample (i : Bool) (r : BitVec 32) (f : BitVec 20) (s : State) : (configure i r f s).errStartSample = 0 := rfl
@[simp] theorem configure_armed (i : Bool) (r : BitVec 32) (f : BitVec 20) (s : State) : (configure i r f s).armed = false := rfl
@[simp] theorem configure_state (i : Bool) (r : BitVec 32) (f : BitVec 20) (s : State) : (configure i r f s).state = .idle := rfl
@[simp] theorem configure_fieldBitIndex (i : Bool) (r : BitVec 32) (f : BitVec 20) (s : State) : (configure i r f s).fieldBitIndex = 0 := rfl
@[simp] theorem configure_destuffActive (i : Bool) (r : BitVec 32) (f : BitVec 20) (s : State) : (configure i r f s).destuffActive = false := rfl
@[simp] theorem configure_lastBit (i : Bool) (r : BitVec 32) (f : BitVec 20) (s : State) : (configure i r f s).lastBit = true := rfl
@[simp] theorem configure_runLength (i : Bool) (r : BitVec 32) (f : BitVec 20) (s : State) : (configure i r f s).runLength = 0 := rfl
@[simp] theorem configure_isData (i : Bool) (r : BitVec 32) (f : BitVec 20) (s : State) : (configure i r f s).isData = true := rfl
@[simp] theorem configure_isExtended (i : Bool) (r : BitVec 32) (f : BitVec 20) (s : State) : (configure i r f s).isExtended = false := rfl
@[simp] theorem configure_ackNacked (i : Bool) (r : BitVec 32) (f : BitVec 20) (s : State) : (configure i r f s).ackNacked = false := rfl
@[simp] theorem configure_identifier (i : Bool) (r : BitVec 32) (f : BitVec 20) (s : State) : (configure i r f s).identifier = 0 := rfl
@[simp] theorem configure_dlc (i : Bool) (r : BitVec 32) (f : BitVec 20) (s : State) : (configure i r f s).dlc = 0 := rfl
@[simp] theorem configure_dataLen (i : Bool) (r : BitVec 32) (f : BitVec 20) (s : State) : (configure i r f s).dataLen = 0 := rfl
@[simp] theorem configure_crc (i : Bool) (r : BitVec 32) (f : BitVec 20) (s : State) : (configure i r f s).crc = 0 := rfl
@[simp] theorem configure_crcSnapshot (i : Bool) (r : BitVec 32) (f : BitVec 20) (s : State) : (configure i r f s).crcSnapshot = 0 := rfl
@[simp] theorem configure_crcRx (i : Bool) (r : BitVec 32) (f : BitVec 20) (s : State) : (configure i r f s).crcRx = 0 := rfl
@[simp] theorem configure_stuffBitCount (i : Bool) (r : BitVec 32) (f : BitVec 20) (s : State) : (configure i r f s).stuffBitCount = 0 := rfl
@[simp] theorem configure_sofSample (i : Bool) (r : BitVec 32) (f : BitVec 20) (s : State) : (configure i r f s).sofSample = 0 := rfl
@[simp] theorem configure_fieldStartSample (i : Bool) (r : BitVec 32) (f : BitVec 20) (s : State) : (configure i r f s).fieldStartSample = 0 := rfl
@[simp] theorem configure_data (i : Bool) (r : BitVec 32) (f : BitVec 20) (s : State) : (configure i r f s).data = .zero := rfl
@[simp] theorem configure_cmdIn (i : Bool) (r : BitVec 32) (f : BitVec 20) (s : State) : (configure i r f s).cmdIn = s.cmdIn := rfl
@[simp] theorem configure_recOut (i : Bool) (r : BitVec 32) (f : BitVec 20) (s : State) : (configure i r f s).recOut = s.recOut := rfl
@[simp] theorem configure_mrkOut (i : Bool) (r : BitVec 32) (f : BitVec 20) (s : State) : (configure i r f s).mrkOut = s.mrkOut := rfl
@[simp] theorem configure_hasMarkers (i : Bool) (r : BitVec 32) (f : BitVec 20) (s : State) : (configure i r f s).hasMarkers = s.hasMarkers := rfl

/-! ## `feedForward`: the CRC engine is fed or not (R180). -/

@[simp] theorem feedForward_cfgBitRateHz (b : Bit) (s : State) : (feedForward b s).cfgBitRateHz = s.cfgBitRateHz := by
  unfold feedForward; split <;> rfl
@[simp] theorem feedForward_cfgSampleRateHz (b : Bit) (s : State) : (feedForward b s).cfgSampleRateHz = s.cfgSampleRateHz := by
  unfold feedForward; split <;> rfl
@[simp] theorem feedForward_cfgInverted (b : Bit) (s : State) : (feedForward b s).cfgInverted = s.cfgInverted := by
  unfold feedForward; split <;> rfl
@[simp] theorem feedForward_samplesPerBit (b : Bit) (s : State) : (feedForward b s).samplesPerBit = s.samplesPerBit := by
  unfold feedForward; split <;> rfl
@[simp] theorem feedForward_mode (b : Bit) (s : State) : (feedForward b s).mode = s.mode := by
  unfold feedForward; split <;> rfl
@[simp] theorem feedForward_faultCode (b : Bit) (s : State) : (feedForward b s).faultCode = s.faultCode := by
  unfold feedForward; split <;> rfl
@[simp] theorem feedForward_errCause (b : Bit) (s : State) : (feedForward b s).errCause = s.errCause := by
  unfold feedForward; split <;> rfl
@[simp] theorem feedForward_errStartSample (b : Bit) (s : State) : (feedForward b s).errStartSample = s.errStartSample := by
  unfold feedForward; split <;> rfl
@[simp] theorem feedForward_armed (b : Bit) (s : State) : (feedForward b s).armed = s.armed := by
  unfold feedForward; split <;> rfl
@[simp] theorem feedForward_state (b : Bit) (s : State) : (feedForward b s).state = s.state := by
  unfold feedForward; split <;> rfl
@[simp] theorem feedForward_fieldBitIndex (b : Bit) (s : State) : (feedForward b s).fieldBitIndex = s.fieldBitIndex := by
  unfold feedForward; split <;> rfl
@[simp] theorem feedForward_destuffActive (b : Bit) (s : State) : (feedForward b s).destuffActive = s.destuffActive := by
  unfold feedForward; split <;> rfl
@[simp] theorem feedForward_lastBit (b : Bit) (s : State) : (feedForward b s).lastBit = s.lastBit := by
  unfold feedForward; split <;> rfl
@[simp] theorem feedForward_runLength (b : Bit) (s : State) : (feedForward b s).runLength = s.runLength := by
  unfold feedForward; split <;> rfl
@[simp] theorem feedForward_isData (b : Bit) (s : State) : (feedForward b s).isData = s.isData := by
  unfold feedForward; split <;> rfl
@[simp] theorem feedForward_isExtended (b : Bit) (s : State) : (feedForward b s).isExtended = s.isExtended := by
  unfold feedForward; split <;> rfl
@[simp] theorem feedForward_ackNacked (b : Bit) (s : State) : (feedForward b s).ackNacked = s.ackNacked := by
  unfold feedForward; split <;> rfl
@[simp] theorem feedForward_identifier (b : Bit) (s : State) : (feedForward b s).identifier = s.identifier := by
  unfold feedForward; split <;> rfl
@[simp] theorem feedForward_dlc (b : Bit) (s : State) : (feedForward b s).dlc = s.dlc := by
  unfold feedForward; split <;> rfl
@[simp] theorem feedForward_dataLen (b : Bit) (s : State) : (feedForward b s).dataLen = s.dataLen := by
  unfold feedForward; split <;> rfl
@[simp] theorem feedForward_crc (b : Bit) (s : State) :
    (feedForward b s).crc = if crcIsFed s.state then crcFeed s.crc b else s.crc := by
  unfold feedForward; split <;> rfl
@[simp] theorem feedForward_crcSnapshot (b : Bit) (s : State) : (feedForward b s).crcSnapshot = s.crcSnapshot := by
  unfold feedForward; split <;> rfl
@[simp] theorem feedForward_crcRx (b : Bit) (s : State) : (feedForward b s).crcRx = s.crcRx := by
  unfold feedForward; split <;> rfl
@[simp] theorem feedForward_stuffBitCount (b : Bit) (s : State) : (feedForward b s).stuffBitCount = s.stuffBitCount := by
  unfold feedForward; split <;> rfl
@[simp] theorem feedForward_sofSample (b : Bit) (s : State) : (feedForward b s).sofSample = s.sofSample := by
  unfold feedForward; split <;> rfl
@[simp] theorem feedForward_fieldStartSample (b : Bit) (s : State) : (feedForward b s).fieldStartSample = s.fieldStartSample := by
  unfold feedForward; split <;> rfl
@[simp] theorem feedForward_data (b : Bit) (s : State) : (feedForward b s).data = s.data := by
  unfold feedForward; split <;> rfl
@[simp] theorem feedForward_cmdIn (b : Bit) (s : State) : (feedForward b s).cmdIn = s.cmdIn := by
  unfold feedForward; split <;> rfl
@[simp] theorem feedForward_recOut (b : Bit) (s : State) : (feedForward b s).recOut = s.recOut := by
  unfold feedForward; split <;> rfl
@[simp] theorem feedForward_mrkOut (b : Bit) (s : State) : (feedForward b s).mrkOut = s.mrkOut := by
  unfold feedForward; split <;> rfl
@[simp] theorem feedForward_hasMarkers (b : Bit) (s : State) : (feedForward b s).hasMarkers = s.hasMarkers := by
  unfold feedForward; split <;> rfl

/-! ## `trackRaw`: the tracker on raw bits (R245). -/

@[simp] theorem trackRaw_cfgBitRateHz (b : Bit) (s : State) : (trackRaw b s).cfgBitRateHz = s.cfgBitRateHz := by
  unfold trackRaw; split <;> rfl
@[simp] theorem trackRaw_cfgSampleRateHz (b : Bit) (s : State) : (trackRaw b s).cfgSampleRateHz = s.cfgSampleRateHz := by
  unfold trackRaw; split <;> rfl
@[simp] theorem trackRaw_cfgInverted (b : Bit) (s : State) : (trackRaw b s).cfgInverted = s.cfgInverted := by
  unfold trackRaw; split <;> rfl
@[simp] theorem trackRaw_samplesPerBit (b : Bit) (s : State) : (trackRaw b s).samplesPerBit = s.samplesPerBit := by
  unfold trackRaw; split <;> rfl
@[simp] theorem trackRaw_mode (b : Bit) (s : State) : (trackRaw b s).mode = s.mode := by
  unfold trackRaw; split <;> rfl
@[simp] theorem trackRaw_faultCode (b : Bit) (s : State) : (trackRaw b s).faultCode = s.faultCode := by
  unfold trackRaw; split <;> rfl
@[simp] theorem trackRaw_errCause (b : Bit) (s : State) : (trackRaw b s).errCause = s.errCause := by
  unfold trackRaw; split <;> rfl
@[simp] theorem trackRaw_errStartSample (b : Bit) (s : State) : (trackRaw b s).errStartSample = s.errStartSample := by
  unfold trackRaw; split <;> rfl
@[simp] theorem trackRaw_armed (b : Bit) (s : State) : (trackRaw b s).armed = s.armed := by
  unfold trackRaw; split <;> rfl
@[simp] theorem trackRaw_state (b : Bit) (s : State) : (trackRaw b s).state = s.state := by
  unfold trackRaw; split <;> rfl
@[simp] theorem trackRaw_fieldBitIndex (b : Bit) (s : State) : (trackRaw b s).fieldBitIndex = s.fieldBitIndex := by
  unfold trackRaw; split <;> rfl
@[simp] theorem trackRaw_destuffActive (b : Bit) (s : State) : (trackRaw b s).destuffActive = s.destuffActive := by
  unfold trackRaw; split <;> rfl
@[simp] theorem trackRaw_lastBit (b : Bit) (s : State) : (trackRaw b s).lastBit = b := by
  unfold trackRaw; split <;> simp_all
@[simp] theorem trackRaw_runLength (b : Bit) (s : State) :
    (trackRaw b s).runLength = if b = s.lastBit then runNext s.runLength else 1 := by
  unfold trackRaw; split <;> rfl
@[simp] theorem trackRaw_isData (b : Bit) (s : State) : (trackRaw b s).isData = s.isData := by
  unfold trackRaw; split <;> rfl
@[simp] theorem trackRaw_isExtended (b : Bit) (s : State) : (trackRaw b s).isExtended = s.isExtended := by
  unfold trackRaw; split <;> rfl
@[simp] theorem trackRaw_ackNacked (b : Bit) (s : State) : (trackRaw b s).ackNacked = s.ackNacked := by
  unfold trackRaw; split <;> rfl
@[simp] theorem trackRaw_identifier (b : Bit) (s : State) : (trackRaw b s).identifier = s.identifier := by
  unfold trackRaw; split <;> rfl
@[simp] theorem trackRaw_dlc (b : Bit) (s : State) : (trackRaw b s).dlc = s.dlc := by
  unfold trackRaw; split <;> rfl
@[simp] theorem trackRaw_dataLen (b : Bit) (s : State) : (trackRaw b s).dataLen = s.dataLen := by
  unfold trackRaw; split <;> rfl
@[simp] theorem trackRaw_crc (b : Bit) (s : State) : (trackRaw b s).crc = s.crc := by
  unfold trackRaw; split <;> rfl
@[simp] theorem trackRaw_crcSnapshot (b : Bit) (s : State) : (trackRaw b s).crcSnapshot = s.crcSnapshot := by
  unfold trackRaw; split <;> rfl
@[simp] theorem trackRaw_crcRx (b : Bit) (s : State) : (trackRaw b s).crcRx = s.crcRx := by
  unfold trackRaw; split <;> rfl
@[simp] theorem trackRaw_stuffBitCount (b : Bit) (s : State) : (trackRaw b s).stuffBitCount = s.stuffBitCount := by
  unfold trackRaw; split <;> rfl
@[simp] theorem trackRaw_sofSample (b : Bit) (s : State) : (trackRaw b s).sofSample = s.sofSample := by
  unfold trackRaw; split <;> rfl
@[simp] theorem trackRaw_fieldStartSample (b : Bit) (s : State) : (trackRaw b s).fieldStartSample = s.fieldStartSample := by
  unfold trackRaw; split <;> rfl
@[simp] theorem trackRaw_data (b : Bit) (s : State) : (trackRaw b s).data = s.data := by
  unfold trackRaw; split <;> rfl
@[simp] theorem trackRaw_cmdIn (b : Bit) (s : State) : (trackRaw b s).cmdIn = s.cmdIn := by
  unfold trackRaw; split <;> rfl
@[simp] theorem trackRaw_recOut (b : Bit) (s : State) : (trackRaw b s).recOut = s.recOut := by
  unfold trackRaw; split <;> rfl
@[simp] theorem trackRaw_mrkOut (b : Bit) (s : State) : (trackRaw b s).mrkOut = s.mrkOut := by
  unfold trackRaw; split <;> rfl
@[simp] theorem trackRaw_hasMarkers (b : Bit) (s : State) : (trackRaw b s).hasMarkers = s.hasMarkers := by
  unfold trackRaw; split <;> rfl

end Sys2Proof.Machine
end

