-- ==== Sys2Proof/Laws/Ops.lean ====
section
/-! SUPPORT. What the shared operations do, once each, for the proofs to cite instead of unfolding them. -/

namespace Sys2Proof.Machine

/-! ## Sequencing -/

@[simp] theorem andThen_next (s : State) (k : State → Result) : andThen (.next s) k = k s := rfl

@[simp] theorem andThen_fault (f : Fault) (k : State → Result) : andThen (.fault f) k = .fault f := rfl

@[simp] theorem andThen_refused (r : Refusal) (k : State → Result) : andThen (.refused r) k = .refused r := rfl

/-- A sequence answers a next state exactly when both parts do. -/
theorem andThen_eq_next {o : Result} {k : State → Result} {t : State} :
    andThen o k = .next t ↔ ∃ s, o = .next s ∧ k s = .next t := by
  cases o <;> simp

theorem andThen_assoc (o : Result) (k l : State → Result) :
    andThen (andThen o k) l = andThen o fun s => andThen (k s) l := by
  cases o <;> rfl

@[simp] theorem processBitEvents_nil (s : State) : processBitEvents [] s = .next s := rfl

theorem processBitEvents_cons (b : Bit) (n : Sample) (rest : List (Bit × Sample)) (s : State) :
    processBitEvents ((b, n) :: rest) s = andThen (processBitEvent b n s) (processBitEvents rest) := rfl

theorem processBitEvents_append (xs ys : List (Bit × Sample)) (s : State) :
    processBitEvents (xs ++ ys) s = andThen (processBitEvents xs s) (processBitEvents ys) := by
  induction xs generalizing s with
  | nil => rfl
  | cons e xs ih =>
    obtain ⟨b, n⟩ := e
    simp only [List.cons_append, processBitEvents_cons, andThen_assoc]
    congr 1
    exact funext ih

/-- What every BitEvent keeps, a sequence of them keeps, and it answers a next state when every one does. -/
theorem processBitEvents_keeps {P : State → Prop} {E : Bit × Sample → Prop}
    (h : ∀ b n s, E (b, n) → P s → ∃ t, processBitEvent b n s = .next t ∧ P t)
    (events : List (Bit × Sample)) (hE : ∀ e ∈ events, E e) (s : State) (hs : P s) :
    ∃ t, processBitEvents events s = .next t ∧ P t := by
  induction events generalizing s with
  | nil => exact ⟨s, rfl, hs⟩
  | cons e rest ih =>
    obtain ⟨b, n⟩ := e
    obtain ⟨u, hu, hPu⟩ := h b n s (hE _ (by simp)) hs
    obtain ⟨t, ht, hPt⟩ := ih (fun e he => hE e (by simp [he])) u hPu
    exact ⟨t, by rw [processBitEvents_cons, hu, andThen_next, ht], hPt⟩

/-! ## Codes -/

@[simp] theorem FieldState.ofCode_code (st : FieldState) : FieldState.ofCode st.code = st := by
  cases st <;> rfl

@[simp] theorem FieldState.code_ofCode (c : BitVec 4) : (FieldState.ofCode c).code = c := by
  revert c; decide

theorem FieldState.code_inj {a b : FieldState} : a.code = b.code ↔ a = b :=
  ⟨fun h => by rw [← FieldState.ofCode_code a, h, FieldState.ofCode_code], fun h => h ▸ rfl⟩

/-! ## Operand forms -/

/-- A bit shifted in from the right: twice the value plus the bit, modulo the register's width. -/
theorem shiftIn_toNat {w : Nat} (hw : 0 < w) (acc : BitVec w) (b : Bit) :
    (shiftIn acc b).toNat = (2 * acc.toNat + b.toNat) % 2 ^ w := by
  obtain ⟨w, rfl⟩ : ∃ v, w = v + 1 := ⟨w - 1, by omega⟩
  have hor : shiftIn acc b = acc <<< 1 + (BitVec.ofBool b).setWidth (w + 1) := by
    refine (BitVec.add_eq_or_of_and_eq_zero _ _ ?_).symm
    apply BitVec.eq_of_getLsbD_eq
    intro i hi
    by_cases h0 : i = 0
    · simp [h0]
    · simp [h0, BitVec.getLsbD_setWidth, BitVec.getLsbD_ofBool]
  have hb : ((BitVec.ofBool b).setWidth (w + 1)).toNat = b.toNat := by
    have h2 : 2 ≤ 2 ^ (w + 1) := by
      calc 2 = 2 ^ 1 := rfl
        _ ≤ 2 ^ (w + 1) := Nat.pow_le_pow_right (by decide) (by omega)
    rw [BitVec.toNat_setWidth]
    cases b <;> simp
  rw [hor, BitVec.toNat_add, hb, BitVec.toNat_shiftLeft, Nat.shiftLeft_eq]
  simp [Nat.mul_comm]

theorem bitPayload_eq_flagPayload (b : Bool) : bitPayload b = flagPayload b := by cases b <;> rfl

theorem clampLength_toNat (dlc : BitVec 4) : (clampLength dlc).toNat = min dlc.toNat 8 := by
  revert dlc; decide

theorem polarityClass_eq (b : Bit) : polarityClass b = if b then .recessive else .dominant := rfl

/-! ## The run tracker -/

theorem runNext_toNat (r : BitVec 4) : (runNext r).toNat = min (r.toNat + 1) 15 := by
  revert r; decide

theorem runNext_eq_add_one {r : BitVec 4} (h : r.toNat ≤ 14) : runNext r = r + 1 := by
  revert h; revert r; decide

/-! ## The data buffer -/

theorem DataBuffer.get_set_same (d : DataBuffer) (k : Fin 8) (v : BitVec 8) : (d.set k v).get k = v := by
  fin_cases k <;> rfl

theorem DataBuffer.get_set_other (d : DataBuffer) {k j : Fin 8} (v : BitVec 8) (h : j ≠ k) :
    (d.set k v).get j = d.get j := by
  fin_cases k <;> fin_cases j <;> first | rfl | exact absurd rfl h

@[simp] theorem DataBuffer.get_zero (k : Fin 8) : DataBuffer.zero.get k = 0 := by
  fin_cases k <;> rfl

theorem DataBuffer.ext_get {d e : DataBuffer} (h : ∀ k, d.get k = e.get k) : d = e := by
  cases d; cases e
  simpa [DataBuffer.get] using
    And.intro (h 0) (And.intro (h 1) (And.intro (h 2) (And.intro (h 3) (And.intro (h 4) (And.intro (h 5)
      (And.intro (h 6) (h 7)))))))

/-! ## Dispatch -/

theorem decodeHandler_idle (index : BitVec 7) (b : Bit) (n : Sample) :
    decodeHandler FieldState.idle.code index b n =
      if index.toNat = 0 then .ok (.idle b n) else .error (.unreachableIndex 0 index) := rfl

theorem decodeHandler_identifier (index : BitVec 7) (b : Bit) (n : Sample) :
    decodeHandler FieldState.identifier.code index b n =
      if index.toNat ≤ 10 then .ok (.identifierId b n) else if index.toNat = 11 then .ok (.identifierRtr b n) else if index.toNat = 12 then .ok (.identifierIde b n) else .error (.unreachableIndex 1 index) := rfl

theorem decodeHandler_extIdentifier (index : BitVec 7) (b : Bit) (n : Sample) :
    decodeHandler FieldState.extIdentifier.code index b n =
      if index.toNat ≤ 17 then .ok (.extIdentifierId b n) else if index.toNat = 18 then .ok (.extIdentifierRtr b n) else if index.toNat = 19 then .ok (.extIdentifierR1 b n) else .error (.unreachableIndex 2 index) := rfl

theorem decodeHandler_control (index : BitVec 7) (b : Bit) (n : Sample) :
    decodeHandler FieldState.control.code index b n =
      if index.toNat = 0 then .ok (.controlR0 b n) else if index.toNat ≤ 3 then .ok (.controlDlc b n) else if index.toNat = 4 then .ok (.controlDlcLast b n) else .error (.unreachableIndex 3 index) := rfl

theorem decodeHandler_data (index : BitVec 7) (b : Bit) (n : Sample) :
    decodeHandler FieldState.data.code index b n =
      if index.toNat ≤ 63 then .ok (.data b n) else .error (.unreachableIndex 4 index) := rfl

theorem decodeHandler_crc15 (index : BitVec 7) (b : Bit) (n : Sample) :
    decodeHandler FieldState.crc15.code index b n =
      if index.toNat ≤ 13 then .ok (.crc15Bits b n) else if index.toNat = 14 then .ok (.crc15Last b n) else .error (.unreachableIndex 5 index) := rfl

theorem decodeHandler_crcDelimiter (index : BitVec 7) (b : Bit) (n : Sample) :
    decodeHandler FieldState.crcDelimiter.code index b n =
      if index.toNat = 0 then .ok (.crcDelimiter b n) else .error (.unreachableIndex 6 index) := rfl

theorem decodeHandler_ack (index : BitVec 7) (b : Bit) (n : Sample) :
    decodeHandler FieldState.ack.code index b n =
      if index.toNat = 0 then .ok (.ackSlot b n) else if index.toNat = 1 then .ok (.ackDelimiter b n) else .error (.unreachableIndex 7 index) := rfl

theorem decodeHandler_endOfFrame (index : BitVec 7) (b : Bit) (n : Sample) :
    decodeHandler FieldState.endOfFrame.code index b n =
      if index.toNat ≤ 6 then .ok (.endOfFrame b n) else .error (.unreachableIndex 8 index) := rfl

theorem decodeHandler_intermission (index : BitVec 7) (b : Bit) (n : Sample) :
    decodeHandler FieldState.intermission.code index b n =
      if index.toNat ≤ 2 then .ok (.intermission b n) else .error (.unreachableIndex 9 index) := rfl

theorem decodeHandler_decoderError (index : BitVec 7) (b : Bit) (n : Sample) :
    decodeHandler FieldState.decoderError.code index b n =
      if index.toNat = 0 then .ok (.decoderError b n) else .error (.unreachableIndex 10 index) := rfl

/-- A forwarded bit runs the handler the decoder reads at the position, and where it reads none it stops by name. -/
theorem runHandler_eq (b : Bit) (n : Sample) (s : State) :
    runHandler b n s = match decodeHandler s.state.code s.fieldBitIndex b n with
      | .ok i => exec i s
      | .error _ => .fault (.unreachableIndex s.state s.fieldBitIndex) := by
  unfold runHandler
  cases h : s.state
  case idle => rw [decodeHandler_idle]; dsimp only; split_ifs <;> rfl
  case identifier => rw [decodeHandler_identifier]; dsimp only; split_ifs <;> rfl
  case extIdentifier => rw [decodeHandler_extIdentifier]; dsimp only; split_ifs <;> rfl
  case control => rw [decodeHandler_control]; dsimp only; split_ifs <;> rfl
  case data => rw [decodeHandler_data]; dsimp only; split_ifs <;> rfl
  case crc15 => rw [decodeHandler_crc15]; dsimp only; split_ifs <;> rfl
  case crcDelimiter => rw [decodeHandler_crcDelimiter]; dsimp only; split_ifs <;> rfl
  case ack => rw [decodeHandler_ack]; dsimp only; split_ifs <;> rfl
  case endOfFrame => rw [decodeHandler_endOfFrame]; dsimp only; split_ifs <;> rfl
  case intermission => rw [decodeHandler_intermission]; dsimp only; split_ifs <;> rfl
  case decoderError => rw [decodeHandler_decoderError]; dsimp only; split_ifs <;> rfl
  all_goals rfl

theorem runHandler_of_decode {b : Bit} {n : Sample} {s : State} {i : Instr}
    (h : decodeHandler s.state.code s.fieldBitIndex b n = .ok i) : runHandler b n s = exec i s := by
  rw [runHandler_eq, h]

theorem runHandler_of_decode_error {b : Bit} {n : Sample} {s : State} {e : DecodeError}
    (h : decodeHandler s.state.code s.fieldBitIndex b n = .error e) :
    runHandler b n s = .fault (.unreachableIndex s.state s.fieldBitIndex) := by
  rw [runHandler_eq, h]

end Sys2Proof.Machine
end

