-- ==== Sys2Proof/Laws/BitEvents.lean ====
section
/-! SUPPORT. What a BitEvent leaves alone, whichever case and handler it runs: said once for `runHandler`, `forward`,
`processBitEvent` and `processBitEvents`. -/

namespace Sys2Proof.Machine

/-- From `s` to `t` the configuration, the mode, `armed`, the CMD port and `hasMarkers` stay, and the two output streams
only grow. -/
structure BitEventFrame (s t : State) : Prop where
  mode : t.mode = s.mode
  faultCode : t.faultCode = s.faultCode
  armed : t.armed = s.armed
  cfgBitRateHz : t.cfgBitRateHz = s.cfgBitRateHz
  cfgSampleRateHz : t.cfgSampleRateHz = s.cfgSampleRateHz
  cfgInverted : t.cfgInverted = s.cfgInverted
  samplesPerBit : t.samplesPerBit = s.samplesPerBit
  cmdIn : t.cmdIn = s.cmdIn
  hasMarkers : t.hasMarkers = s.hasMarkers
  recOut : s.recOut <+: t.recOut
  mrkOut : s.mrkOut <+: t.mrkOut

namespace BitEventFrame

theorem refl (s : State) : BitEventFrame s s :=
  ⟨rfl, rfl, rfl, rfl, rfl, rfl, rfl, rfl, rfl, List.prefix_rfl, List.prefix_rfl⟩

theorem trans {r s t : State} (h : BitEventFrame r s) (k : BitEventFrame s t) : BitEventFrame r t :=
  ⟨k.mode.trans h.mode, k.faultCode.trans h.faultCode, k.armed.trans h.armed, k.cfgBitRateHz.trans h.cfgBitRateHz,
    k.cfgSampleRateHz.trans h.cfgSampleRateHz, k.cfgInverted.trans h.cfgInverted, k.samplesPerBit.trans h.samplesPerBit,
    k.cmdIn.trans h.cmdIn, k.hasMarkers.trans h.hasMarkers, h.recOut.trans k.recOut, h.mrkOut.trans k.mrkOut⟩

end BitEventFrame

theorem prefix_markersWith (s : State) (c : MarkerClass) (b : Bit) (n : Sample) : s.mrkOut <+: s.markersWith c b n := by
  unfold State.markersWith
  split <;> simp

theorem frame_feedForward (b : Bit) (s : State) : BitEventFrame s (feedForward b s) := by
  constructor <;> simp

theorem frame_trackSame (s : State) : BitEventFrame s (trackSame s) := by
  constructor <;> simp

theorem frame_trackRestart (b : Bit) (s : State) : BitEventFrame s (trackRestart b s) := by
  constructor <;> simp

theorem frame_execIdle {b : Bit} {n : Sample} {s t : State} (h : execIdle b n s = .next t) : BitEventFrame s t := by
  unfold execIdle at h
  split_ifs at h <;> cases h <;> constructor <;> first | rfl | exact prefix_markersWith s _ _ _

theorem frame_execIdentifierId {b : Bit} {n : Sample} {s t : State} (h : execIdentifierId b n s = .next t) : BitEventFrame s t := by
  cases h
  constructor <;> first | rfl | exact prefix_markersWith s _ _ _

theorem frame_execIdentifierRtr {b : Bit} {n : Sample} {s t : State} (h : execIdentifierRtr b n s = .next t) : BitEventFrame s t := by
  cases h
  constructor <;> first | rfl | exact prefix_markersWith s _ _ _

theorem frame_execIdentifierIde {b : Bit} {n : Sample} {s t : State} (h : execIdentifierIde b n s = .next t) : BitEventFrame s t := by
  unfold execIdentifierIde at h
  dsimp only at h
  split_ifs at h <;> cases h <;> constructor <;> first | rfl | exact prefix_markersWith s _ _ _ | simp

theorem frame_execExtIdentifierId {b : Bit} {n : Sample} {s t : State} (h : execExtIdentifierId b n s = .next t) : BitEventFrame s t := by
  cases h
  constructor <;> first | rfl | exact prefix_markersWith s _ _ _

theorem frame_execExtIdentifierRtr {b : Bit} {n : Sample} {s t : State} (h : execExtIdentifierRtr b n s = .next t) : BitEventFrame s t := by
  cases h
  constructor <;> first | rfl | exact prefix_markersWith s _ _ _

theorem frame_execExtIdentifierR1 {b : Bit} {n : Sample} {s t : State} (h : execExtIdentifierR1 b n s = .next t) : BitEventFrame s t := by
  unfold execExtIdentifierR1 at h
  split_ifs at h <;> cases h <;> constructor <;> first | rfl | exact prefix_markersWith s _ _ _ | simp

theorem frame_execControlR0 {b : Bit} {n : Sample} {s t : State} (h : execControlR0 b n s = .next t) : BitEventFrame s t := by
  unfold execControlR0 at h
  dsimp only at h
  split_ifs at h <;> cases h <;> constructor <;> first | rfl | exact prefix_markersWith s _ _ _ | simp

theorem frame_execControlDlc {b : Bit} {n : Sample} {s t : State} (h : execControlDlc b n s = .next t) : BitEventFrame s t := by
  cases h
  constructor <;> first | rfl | exact prefix_markersWith s _ _ _

theorem frame_execControlDlcLast {b : Bit} {n : Sample} {s t : State} (h : execControlDlcLast b n s = .next t) : BitEventFrame s t := by
  cases h
  constructor <;> first | rfl | exact prefix_markersWith s _ _ _ | simp

theorem frame_execData {b : Bit} {n : Sample} {s t : State} (h : execData b n s = .next t) : BitEventFrame s t := by
  unfold execData at h
  dsimp only at h
  split_ifs at h <;> cases h <;> constructor <;> first | rfl | exact prefix_markersWith s _ _ _ | simp

theorem frame_execCrc15Bits {b : Bit} {n : Sample} {s t : State} (h : execCrc15Bits b n s = .next t) : BitEventFrame s t := by
  cases h
  constructor <;> first | rfl | exact prefix_markersWith s _ _ _

theorem frame_execCrc15Last {b : Bit} {n : Sample} {s t : State} (h : execCrc15Last b n s = .next t) : BitEventFrame s t := by
  unfold execCrc15Last at h
  dsimp only at h
  split_ifs at h <;> cases h <;> constructor <;> first | rfl | exact prefix_markersWith s _ _ _ | simp

theorem frame_execCrcDelimiter {b : Bit} {n : Sample} {s t : State} (h : execCrcDelimiter b n s = .next t) : BitEventFrame s t := by
  unfold execCrcDelimiter at h
  dsimp only at h
  split_ifs at h <;> cases h <;> constructor <;> first | rfl | exact prefix_markersWith s _ _ _

theorem frame_execAckSlot {b : Bit} {n : Sample} {s t : State} (h : execAckSlot b n s = .next t) : BitEventFrame s t := by
  cases h
  constructor <;> first | rfl | exact prefix_markersWith s _ _ _

theorem frame_execAckDelimiter {b : Bit} {n : Sample} {s t : State} (h : execAckDelimiter b n s = .next t) : BitEventFrame s t := by
  unfold execAckDelimiter at h
  split_ifs at h <;> cases h <;> constructor <;> first | rfl | exact prefix_markersWith s _ _ _ | simp

theorem frame_execEndOfFrame {b : Bit} {n : Sample} {s t : State} (h : execEndOfFrame b n s = .next t) : BitEventFrame s t := by
  unfold execEndOfFrame at h
  dsimp only at h
  split_ifs at h <;> cases h <;> constructor <;> first | rfl | exact prefix_markersWith s _ _ _ | simp

theorem frame_execIntermission {b : Bit} {n : Sample} {s t : State} (h : execIntermission b n s = .next t) : BitEventFrame s t := by
  unfold execIntermission at h
  dsimp only at h
  split_ifs at h <;> cases h <;> constructor <;> first | rfl | exact prefix_markersWith s _ _ _ | simp

theorem frame_execDecoderError {b : Bit} {n : Sample} {s t : State} (h : execDecoderError b n s = .next t) :
    BitEventFrame s t := by
  unfold execDecoderError at h
  dsimp only at h
  split_ifs at h <;> cases h <;> constructor <;> simp <;> exact prefix_markersWith s _ _ _

theorem frame_runHandler {b : Bit} {n : Sample} {s t : State} (h : runHandler b n s = .next t) : BitEventFrame s t := by
  unfold runHandler at h
  cases hs : s.state <;> rw [hs] at h <;> dsimp only at h
  case idle =>
    split_ifs at h
    · exact frame_execIdle h
  case identifier =>
    split_ifs at h
    · exact frame_execIdentifierId h
    · exact frame_execIdentifierRtr h
    · exact frame_execIdentifierIde h
  case extIdentifier =>
    split_ifs at h
    · exact frame_execExtIdentifierId h
    · exact frame_execExtIdentifierRtr h
    · exact frame_execExtIdentifierR1 h
  case control =>
    split_ifs at h
    · exact frame_execControlR0 h
    · exact frame_execControlDlc h
    · exact frame_execControlDlcLast h
  case data =>
    split_ifs at h
    · exact frame_execData h
  case crc15 =>
    split_ifs at h
    · exact frame_execCrc15Bits h
    · exact frame_execCrc15Last h
  case crcDelimiter =>
    split_ifs at h
    · exact frame_execCrcDelimiter h
  case ack =>
    split_ifs at h
    · exact frame_execAckSlot h
    · exact frame_execAckDelimiter h
  case endOfFrame =>
    split_ifs at h
    · exact frame_execEndOfFrame h
  case intermission =>
    split_ifs at h
    · exact frame_execIntermission h
  case decoderError =>
    split_ifs at h
    · exact frame_execDecoderError h
  all_goals cases h

theorem frame_forward {b : Bit} {n : Sample} {s t : State} (h : forward b n s = .next t) : BitEventFrame s t :=
  (frame_feedForward b s).trans (frame_runHandler h)

theorem frame_processBitEvent {b : Bit} {n : Sample} {s t : State} (h : processBitEvent b n s = .next t) :
    BitEventFrame s t := by
  unfold processBitEvent at h
  split_ifs at h
  · exact frame_execDecoderError h
  · exact frame_forward h
  · cases h; constructor <;> first | rfl | exact prefix_markersWith s _ _ _
  · cases h; constructor <;> first | rfl | exact prefix_markersWith s _ _ _
  · exact (frame_trackSame s).trans (frame_forward h)
  · exact (frame_trackRestart b s).trans (frame_forward h)

theorem frame_processBitEvents {events : List (Bit × Sample)} {s t : State} (h : processBitEvents events s = .next t) :
    BitEventFrame s t := by
  induction events generalizing s with
  | nil => cases h; exact .refl _
  | cons e rest ih =>
    obtain ⟨b, n⟩ := e
    obtain ⟨u, hu, ht⟩ := andThen_eq_next.1 h
    exact (frame_processBitEvent hu).trans (ih ht)

end Sys2Proof.Machine
end

