-- ==== Sys2Proof/Laws/Encoding.lean ====
section
/-! SUPPORT. Which bit of a command word is which bit of its fields, and what the decoder reads back. -/

namespace Sys2Proof

/-! ## The bits of a command word and of the two payloads -/

theorem getLsbD_commandWord (op : BitVec 3) (p : BitVec 129) (i : Nat) :
    (commandWord op p).getLsbD i = if i < 129 then p.getLsbD i else op.getLsbD (i - 129) := by
  have h : (commandWord op p).getLsbD i = _ := BitVec.getLsbD_append (x := op) (y := p) (i := i)
  exact h

theorem getLsbD_configPayload (z : BitVec 76) (v : Bool) (r : BitVec 32) (f : BitVec 20) (i : Nat) :
    (configPayload z v r f).getLsbD i =
      if i < 20 then f.getLsbD i
      else if i < 52 then r.getLsbD (i - 20)
      else if i = 52 then v
      else z.getLsbD (i - 53) := by
  have h : (configPayload z v r f).getLsbD i = _ :=
    BitVec.getLsbD_append (x := z) (y := (BitVec.ofBool v ++ (r ++ f) : BitVec (1 + (32 + 20)))) (i := i)
  rw [h, BitVec.getLsbD_append, BitVec.getLsbD_append]
  by_cases h20 : i < 20
  · simp [h20, show i < 53 by omega, show i < 52 by omega]
  · by_cases h52 : i < 52
    · simp [h20, h52, show i < 53 by omega]
    · by_cases hv : i = 52
      · subst hv; simp
      · simp [h20, h52, hv, show ¬ i < 53 by omega]

theorem getLsbD_segPayload (l : Level) (a e : Sample) (i : Nat) (hi : i < 129) :
    (segPayload l a e).getLsbD i =
      if i < 64 then e.getLsbD i else if i < 128 then a.getLsbD (i - 64) else l := by
  have h : (segPayload l a e).getLsbD i = _ :=
    BitVec.getLsbD_append (x := BitVec.ofBool l) (y := (a ++ e : BitVec (64 + 64))) (i := i)
  rw [h, BitVec.getLsbD_append]
  by_cases h64 : i < 64
  · simp [h64, show i < 128 by omega]
  · by_cases h128 : i < 128
    · simp [h64, h128]
    · simp [show i = 128 by omega]

/-! ## What the decoder reads back -/

theorem opcodeOf_commandWord (op : BitVec 3) (p : BitVec 129) : opcodeOf (commandWord op p) = op := by
  apply BitVec.eq_of_getLsbD_eq
  intro i hi
  simp [opcodeOf, getLsbD_commandWord, hi]

theorem payloadOf_commandWord (op : BitVec 3) (p : BitVec 129) : payloadOf (commandWord op p) = p := by
  apply BitVec.eq_of_getLsbD_eq
  intro i hi
  simp [payloadOf, getLsbD_commandWord, hi]

theorem decodeConfig_commandWord (op : BitVec 3) (z : BitVec 76) (v : Bool) (r : BitVec 32) (f : BitVec 20) :
    decodeConfig (commandWord op (configPayload z v r f)) = .config z v r f := by
  unfold decodeConfig
  congr 1
  · apply BitVec.eq_of_getLsbD_eq
    intro i hi
    simp only [BitVec.getLsbD_extractLsb', getLsbD_commandWord, getLsbD_configPayload, hi, decide_true, Bool.true_and]
    simp [show 53 + i < 129 by omega, show ¬ 53 + i < 20 by omega, show ¬ 53 + i < 52 by omega,
      show ¬ 53 + i = 52 by omega]
  · rw [getLsbD_commandWord, if_pos (by decide), getLsbD_configPayload]
    simp
  · apply BitVec.eq_of_getLsbD_eq
    intro i hi
    simp only [BitVec.getLsbD_extractLsb', getLsbD_commandWord, getLsbD_configPayload, hi, decide_true, Bool.true_and]
    simp [show 20 + i < 129 by omega, show 20 + i < 52 by omega]
  · apply BitVec.eq_of_getLsbD_eq
    intro i hi
    simp only [BitVec.getLsbD_extractLsb', getLsbD_commandWord, getLsbD_configPayload, hi, decide_true, Bool.true_and]
    simp [hi, show i < 129 by omega]

theorem decodeSeg_commandWord (op : BitVec 3) (l : Level) (a e : Sample) :
    decodeSeg (commandWord op (segPayload l a e)) = .seg l a e := by
  unfold decodeSeg
  congr 1
  · rw [getLsbD_commandWord, if_pos (by decide), getLsbD_segPayload _ _ _ _ (by decide)]
    simp
  · apply BitVec.eq_of_getLsbD_eq
    intro i hi
    rw [BitVec.getLsbD_extractLsb', getLsbD_commandWord, if_pos (by omega), getLsbD_segPayload _ _ _ _ (by omega)]
    simp [hi, show 64 + i < 128 by omega]
  · apply BitVec.eq_of_getLsbD_eq
    intro i hi
    rw [BitVec.getLsbD_extractLsb', getLsbD_commandWord, if_pos (by omega), getLsbD_segPayload _ _ _ _ (by omega)]
    simp [hi]

end Sys2Proof
end

