-- ==== Sys2Proof/Laws/PerInstr.lean ====
section
/-! SUPPORT. One lemma per constructor of Instr for each family of LAWS.json. RoundTrip: decoding the encoding of a
well-formed instruction gives it back. -/

namespace Sys2Proof.Laws.RoundTrip

/-- The encoding of a well-formed instruction decodes to it. -/
def Statement (i : Instr) : Prop := i.wellFormed = true → decode (encode i) = .ok i

theorem nop (p : BitVec 129) : Statement (.nop p) := by
  intro _
  simp [encode, decode, decodeCommand, opcodeOf_commandWord, payloadOf_commandWord]

theorem reset (p : BitVec 129) : Statement (.reset p) := by
  intro _
  simp [encode, decode, decodeCommand, opcodeOf_commandWord, payloadOf_commandWord]

theorem config (z : BitVec 76) (i : Bool) (r : BitVec 32) (f : BitVec 20) : Statement (.config z i r f) := by
  intro _
  simp [encode, decode, decodeCommand, opcodeOf_commandWord, decodeConfig_commandWord]

theorem seg (l : Level) (a e : Sample) : Statement (.seg l a e) := by
  intro _
  simp [encode, decode, decodeCommand, opcodeOf_commandWord, decodeSeg_commandWord]

theorem reservedOp (op : BitVec 3) (p : BitVec 129) : Statement (.reservedOp op p) := by
  intro h
  have h4 : 4 ≤ op.toNat := by simpa [Instr.wellFormed] using h
  have h0 : op ≠ 0b000 := by rintro rfl; simp at h4
  have h1 : op ≠ 0b001 := by rintro rfl; simp at h4
  have h2 : op ≠ 0b010 := by rintro rfl; simp at h4
  have h3 : op ≠ 0b011 := by rintro rfl; simp at h4
  simp only [encode, decode, decodeCommand, opcodeOf_commandWord, payloadOf_commandWord, h0, h1, h2, h3, if_false]

theorem dsErrorbit (b : Bit) (n : Sample) : Statement (.dsErrorbit b n) := fun _ => rfl

theorem dsInactive (b : Bit) (n : Sample) : Statement (.dsInactive b n) := fun _ => rfl

theorem dsStuffBit (b : Bit) (n : Sample) : Statement (.dsStuffBit b n) := fun _ => rfl

theorem dsViolation (b : Bit) (n : Sample) : Statement (.dsViolation b n) := fun _ => rfl

theorem dsSame (b : Bit) (n : Sample) : Statement (.dsSame b n) := fun _ => rfl

theorem dsChange (b : Bit) (n : Sample) : Statement (.dsChange b n) := fun _ => rfl

theorem idle (b : Bit) (n : Sample) : Statement (.idle b n) := fun _ => rfl

theorem identifierId (b : Bit) (n : Sample) : Statement (.identifierId b n) := fun _ => rfl

theorem identifierRtr (b : Bit) (n : Sample) : Statement (.identifierRtr b n) := fun _ => rfl

theorem identifierIde (b : Bit) (n : Sample) : Statement (.identifierIde b n) := fun _ => rfl

theorem extIdentifierId (b : Bit) (n : Sample) : Statement (.extIdentifierId b n) := fun _ => rfl

theorem extIdentifierRtr (b : Bit) (n : Sample) : Statement (.extIdentifierRtr b n) := fun _ => rfl

theorem extIdentifierR1 (b : Bit) (n : Sample) : Statement (.extIdentifierR1 b n) := fun _ => rfl

theorem controlR0 (b : Bit) (n : Sample) : Statement (.controlR0 b n) := fun _ => rfl

theorem controlDlc (b : Bit) (n : Sample) : Statement (.controlDlc b n) := fun _ => rfl

theorem controlDlcLast (b : Bit) (n : Sample) : Statement (.controlDlcLast b n) := fun _ => rfl

theorem data (b : Bit) (n : Sample) : Statement (.data b n) := fun _ => rfl

theorem crc15Bits (b : Bit) (n : Sample) : Statement (.crc15Bits b n) := fun _ => rfl

theorem crc15Last (b : Bit) (n : Sample) : Statement (.crc15Last b n) := fun _ => rfl

theorem crcDelimiter (b : Bit) (n : Sample) : Statement (.crcDelimiter b n) := fun _ => rfl

theorem ackSlot (b : Bit) (n : Sample) : Statement (.ackSlot b n) := fun _ => rfl

theorem ackDelimiter (b : Bit) (n : Sample) : Statement (.ackDelimiter b n) := fun _ => rfl

theorem endOfFrame (b : Bit) (n : Sample) : Statement (.endOfFrame b n) := fun _ => rfl

theorem intermission (b : Bit) (n : Sample) : Statement (.intermission b n) := fun _ => rfl

theorem decoderError (b : Bit) (n : Sample) : Statement (.decoderError b n) := fun _ => rfl

theorem stateUnreachable11 (b : Bit) (n : Sample) : Statement (.stateUnreachable11 b n) := fun _ => rfl

theorem stateUnreachable12To15 (code : BitVec 4) (b : Bit) (n : Sample) :
    Statement (.stateUnreachable12To15 code b n) := by
  intro h
  have h12 : 12 ≤ code.toNat := by simpa [Instr.wellFormed] using h
  have h16 : code.toNat < 16 := code.isLt
  have : code.toNat = 12 ∨ code.toNat = 13 ∨ code.toNat = 14 ∨ code.toNat = 15 := by omega
  rcases this with h | h | h | h <;> simp [encode, decode, decodeHandler, h]

end Sys2Proof.Laws.RoundTrip
end

