-- ==== Sys2Proof/Tests/Slice0.lean ====
section
/-! SUPPORT. The model's own tests: the checks of WellFormed, decoding of words written out from the spec, one or two steps
for each instruction with values of `95_test_vectors.md`, and a witness for the hypotheses of every obligation. -/

namespace Sys2Proof.Tests

open Sys2Proof.Machine

/-! ## Helpers -/

/-- The result is a next state with the property. -/
def nextWith (o : Result) (p : State → Bool) : Bool :=
  match o with
  | .next s => p s
  | .fault _ => false
  | .refused _ => false

/-- The result is this fault. -/
def faults (o : Result) (f : Fault) : Bool :=
  match o with
  | .next _ => false
  | .fault g => g == f
  | .refused _ => false

/-- The FetchWord decodes to this instruction. -/
def decodesTo (w : FetchWord) (i : Instr) : Bool :=
  match decode w with
  | .ok j => j == i
  | .error _ => false

/-- The session of `95_test_vectors.md`: 125 kHz, 1 MHz, not inverted, armed, in IDLE. -/
def session : State :=
  { State.reset with
    cfgBitRateHz := 125000, cfgSampleRateHz := 1000000, samplesPerBit := 8, mode := .run, armed := true }

/-- The session inside a frame, in the stuffed region. -/
def inFrame (st : FieldState) (index : BitVec 7) (run : BitVec 4) (last : Bit) : State :=
  { session with state := st, fieldBitIndex := index, destuffActive := true, runLength := run, lastBit := last }

/-- The session inside a frame, past the stuffed region. -/
def inTail (st : FieldState) (index : BitVec 7) : State :=
  { session with state := st, fieldBitIndex := index, runLength := 1 }

/-- The session in recovery from a stuffing violation at sample 132. -/
def inRecovery (run : BitVec 4) (last : Bit) : State :=
  { session with state := .decoderError, runLength := run, lastBit := last, errCause := .stuff, errStartSample := 132 }

/-! ## WellFormed refuses what it must -/

theorem test_wellFormed_refuses_opcode_3_as_reserved : (Instr.reservedOp 3 0).wellFormed = false := by decide

theorem test_wellFormed_refuses_code_11_in_row_12_to_15 :
    (Instr.stateUnreachable12To15 11 false 0).wellFormed = false := by decide

theorem test_wellFormed_accepts_the_lowest_codes :
    (Instr.reservedOp 4 0).wellFormed = true ∧ (Instr.stateUnreachable12To15 12 false 0).wellFormed = true := by decide

/-! ## Decoding: words written out from `30_encoding.md` R82 to R87 (T-H1 to T-H18), keys from R160, positions from R32 -/

theorem test_decode_nop : decodesTo (.cmd 0x000000000000000000000000000000000) (.nop 0) = true := by decide

theorem test_decode_reset : decodesTo (.cmd 0x200000000000000000000000000000000) (.reset 0) = true := by decide

theorem test_decode_config :
    decodesTo (.cmd 0x40000000000000000000000f42401e848) (.config 0 false 1000000 125000) = true := by decide

theorem test_decode_config_reserved_bit :
    decodesTo (.cmd 0x40000000000000000002000f42401e848) (.config 1 false 1000000 125000) = true := by decide

theorem test_decode_seg_high : decodesTo (.cmd 0x700000000000000500000000000000050) (.seg true 80 80) = true := by decide

theorem test_decode_seg_low : decodesTo (.cmd 0x600000000000000500000000000000068) (.seg false 80 104) = true := by decide

theorem test_decode_reserved_opcode :
    decodesTo (.cmd 0xfffffffffffffffffffffffffffffffff) (.reservedOp 0b111 (BitVec.allOnes 129)) = true := by decide

theorem test_decode_destuff_keys :
    decodesTo (.destuff 0b1000 true 5) (.dsErrorbit true 5) = true ∧
    decodesTo (.destuff 0b1111 true 5) (.dsErrorbit true 5) = true ∧
    decodesTo (.destuff 0b0011 true 5) (.dsInactive true 5) = true ∧
    decodesTo (.destuff 0b0110 true 5) (.dsStuffBit true 5) = true ∧
    decodesTo (.destuff 0b0111 true 5) (.dsViolation true 5) = true ∧
    decodesTo (.destuff 0b0101 true 5) (.dsSame true 5) = true ∧
    decodesTo (.destuff 0b0100 true 5) (.dsChange true 5) = true := by decide

theorem test_decode_idle_and_identifier_positions :
    decodesTo (.handler 0 0 false 84) (.idle false 84) = true ∧
    decodesTo (.handler 1 0 true 9) (.identifierId true 9) = true ∧
    decodesTo (.handler 1 10 true 9) (.identifierId true 9) = true ∧
    decodesTo (.handler 1 11 true 9) (.identifierRtr true 9) = true ∧
    decodesTo (.handler 1 12 true 9) (.identifierIde true 9) = true ∧
    decodesTo (.handler 2 0 true 9) (.extIdentifierId true 9) = true ∧
    decodesTo (.handler 2 17 true 9) (.extIdentifierId true 9) = true ∧
    decodesTo (.handler 2 18 true 9) (.extIdentifierRtr true 9) = true ∧
    decodesTo (.handler 2 19 true 9) (.extIdentifierR1 true 9) = true := by decide

theorem test_decode_control_data_and_crc_positions :
    decodesTo (.handler 3 0 true 9) (.controlR0 true 9) = true ∧
    decodesTo (.handler 3 1 true 9) (.controlDlc true 9) = true ∧
    decodesTo (.handler 3 3 true 9) (.controlDlc true 9) = true ∧
    decodesTo (.handler 3 4 true 9) (.controlDlcLast true 9) = true ∧
    decodesTo (.handler 4 0 true 9) (.data true 9) = true ∧
    decodesTo (.handler 4 63 true 9) (.data true 9) = true ∧
    decodesTo (.handler 5 0 true 9) (.crc15Bits true 9) = true ∧
    decodesTo (.handler 5 13 true 9) (.crc15Bits true 9) = true ∧
    decodesTo (.handler 5 14 true 9) (.crc15Last true 9) = true ∧
    decodesTo (.handler 6 0 true 9) (.crcDelimiter true 9) = true := by decide

theorem test_decode_tail_positions :
    decodesTo (.handler 7 0 true 9) (.ackSlot true 9) = true ∧
    decodesTo (.handler 7 1 true 9) (.ackDelimiter true 9) = true ∧
    decodesTo (.handler 8 0 true 9) (.endOfFrame true 9) = true ∧
    decodesTo (.handler 8 6 true 9) (.endOfFrame true 9) = true ∧
    decodesTo (.handler 9 0 true 9) (.intermission true 9) = true ∧
    decodesTo (.handler 9 2 true 9) (.intermission true 9) = true ∧
    decodesTo (.handler 10 0 true 9) (.decoderError true 9) = true ∧
    decodesTo (.handler 11 0 true 9) (.stateUnreachable11 true 9) = true ∧
    decodesTo (.handler 15 3 true 9) (.stateUnreachable12To15 15 true 9) = true := by decide

/-- The index after the last of each range of R32 is no position. -/
theorem test_decode_outside_every_range :
    [decode (.handler 0 1 true 9), decode (.handler 1 13 true 9), decode (.handler 2 20 true 9),
     decode (.handler 3 5 true 9), decode (.handler 4 64 true 9), decode (.handler 5 15 true 9),
     decode (.handler 6 1 true 9), decode (.handler 7 2 true 9), decode (.handler 8 7 true 9),
     decode (.handler 9 3 true 9), decode (.handler 10 1 true 9)].all (fun r => r.toOption.isNone) = true := by decide

theorem test_tableWord_seg : decodeTableWord 136 0x700000000000000500000000000000050 = some (.seg true 80 80) := by decide

theorem test_tableWord_handler : decodeTableWord 8 9 = some (.intermission false 0) := by decide

/-! ## Commands -/

/-- T-H1. -/
theorem test_nop : nextWith (exec (.nop 0) State.reset) (· == State.reset) = true := by decide

/-- T-H17: from FAULT with code 6. -/
theorem test_reset :
    nextWith (exec (.reset 0) { session with mode := .fault, faultCode := .segOrder }) (· == State.reset) = true := by decide

/-- T-H3, T-H8. -/
theorem test_config_accepted :
    nextWith (exec (.config 0 false 1000000 130000) State.reset) (fun t => t.mode == .run && t.samplesPerBit == 7) = true := by
  decide

/-- T-H10: the reserved bits are checked first. -/
theorem test_config_refused :
    nextWith (exec (.config 1 false 1000000 0) State.reset) (fun t => t.mode == .fault && t.faultCode == .configReservedBits)
      = true := by decide

/-- T-X6: three recessive bits, then a glitch of two samples that yields none; T-X7: the first dominant segment is skipped. -/
theorem test_seg_skips_the_first_dominant_segment :
    nextWith (exec (.seg false 0 24) { session with armed := false }) (· == session) = true := by decide

/-- T-S1: the segment `seg 0, 80, 104` holds the SOF at 84 and two identifier bits. -/
theorem test_seg_start_of_frame :
    nextWith (exec (.seg false 80 104) session) (fun t =>
      t.state == .identifier && t.fieldBitIndex == 2 && t.sofSample == 84 && t.runLength == 3 &&
      t.mrkOut == [⟨.frameStart, false, 84⟩, ⟨.normal, false, 92⟩, ⟨.normal, false, 100⟩]) = true := by decide

/-- T-H14. -/
theorem test_reservedOp :
    nextWith (exec (.reservedOp 0b111 (BitVec.allOnes 129)) session)
      (fun t => t.mode == .fault && t.faultCode == .reservedOp && t.samplesPerBit == 8) = true := by decide

/-! ## De-stuffer cases -/

/-- T-D1. -/
theorem test_dsInactive :
    nextWith (processBitEvent false 508 (inTail .ack 0)) (fun t =>
      t.runLength == 1 && t.lastBit == true && t.fieldBitIndex == 1) = true := by decide

/-- T-D2b. -/
theorem test_dsSame :
    nextWith (processBitEvent true 396 (inFrame .crc15 3 4 true)) (fun t =>
      t.runLength == 5 && t.lastBit == true && t.fieldBitIndex == 4) = true := by decide

/-- T-D3. -/
theorem test_dsChange :
    nextWith (processBitEvent true 9 (inFrame .identifier 3 4 false)) (fun t =>
      t.runLength == 1 && t.lastBit == true && t.fieldBitIndex == 4 && t.crc == 0x4599) = true := by decide

/-- T-D4, at the stuff bit of T-S1 at sample 220. -/
theorem test_dsStuffBit :
    nextWith (processBitEvent true 220 { inFrame .control 3 5 false with crc := 0x1A16 }) (fun t =>
      t.runLength == 1 && t.lastBit == true && t.fieldBitIndex == 3 && t.crc == 0x1A16 && t.stuffBitCount == 1 &&
      t.mrkOut == [⟨.stuff, true, 220⟩]) = true := by decide

/-- T-D5b. -/
theorem test_dsViolation :
    nextWith (processBitEvent true 132 (inFrame .identifier 5 5 true)) (fun t =>
      t.runLength == 6 && t.lastBit == true && t.state == .decoderError && t.destuffActive == false &&
      t.errStartSample == 132 && t.errCause.code == 1) = true := by decide

/-- R245: a dominant bit in recovery restarts the count. -/
theorem test_dsErrorbit :
    nextWith (processBitEvent false 140 (inRecovery 9 true)) (fun t =>
      t.runLength == 1 && t.lastBit == false && t.state == .decoderError && t.mrkOut == [⟨.error, false, 140⟩]) = true := by
  decide

/-! ## State handlers: rows of the trace of T-S1 unless said otherwise -/

/-- Row 84. -/
theorem test_idle :
    nextWith (exec (.idle false 84) session) (fun t =>
      t.state == .identifier && t.fieldBitIndex == 0 && t.runLength == 1 && t.lastBit == false && t.crc == 0 &&
      t.destuffActive && t.sofSample == 84 && t.mrkOut == [⟨.frameStart, false, 84⟩]) = true := by decide

/-- Row 172: the last bit of identifier 0x123. -/
theorem test_identifierId :
    nextWith (exec (.identifierId true 172) { inFrame .identifier 10 2 true with identifier := 0x91 }) (fun t =>
      t.identifier == 0x123 && t.fieldBitIndex == 11) = true := by decide

/-- Row 180, and a recessive RTR. -/
theorem test_identifierRtr :
    nextWith (exec (.identifierRtr false 180) (inFrame .identifier 11 1 false)) (fun t =>
      t.isData && t.fieldBitIndex == 12 && t.mrkOut == [⟨.dominant, false, 180⟩]) = true ∧
    nextWith (exec (.identifierRtr true 180) (inFrame .identifier 11 1 false)) (fun t => !t.isData) = true := by decide

/-- Row 188: StandardIdentifier(0x123, 1)[92, 188]. -/
theorem test_identifierIde :
    nextWith (exec (.identifierIde false 188) { inFrame .identifier 12 2 false with identifier := 0x123, fieldStartSample := 92 })
      (fun t => t.state == .control && t.recOut == [⟨.standardIdentifier, 0x123, 1, 92, 188⟩]) = true := by decide

/-- T-S2: the last of the eighteen bits of identifier 0x1FFFFFFF. -/
theorem test_extIdentifierId :
    nextWith (exec (.extIdentifierId true 372) { inFrame .extIdentifier 17 5 true with identifier := 0xFFFFFFF }) (fun t =>
      t.identifier == 0x1FFFFFFF && t.fieldBitIndex == 18) = true := by decide

/-- T-S2, sample 388. -/
theorem test_extIdentifierRtr :
    nextWith (exec (.extIdentifierRtr true 388) (inFrame .extIdentifier 18 2 true)) (fun t =>
      t.isData == false && t.fieldBitIndex == 19 && t.mrkOut == [⟨.recessive, true, 388⟩]) = true := by decide

/-- T-S2, sample 396: ExtendedIdentifier(0x1FFFFFFF, 0)[92, 396]. -/
theorem test_extIdentifierR1 :
    nextWith (exec (.extIdentifierR1 false 396)
      { inFrame .extIdentifier 19 1 false with identifier := 0x1FFFFFFF, isData := false, fieldStartSample := 92 })
      (fun t => t.state == .control && t.recOut == [⟨.extendedIdentifier, 0x1FFFFFFF, 0, 92, 396⟩]) = true := by decide

/-- T-F4: DecodeError(0, 0)[364, 364], cause 3, decoding goes on. -/
theorem test_controlR0 :
    nextWith (exec (.controlR0 true 364) (inFrame .control 0 2 true)) (fun t =>
      t.state == .control && t.fieldBitIndex == 1 && t.errCause.code == 3 && t.errStartSample == 0 &&
      t.recOut == [⟨.decodeError, 0, 0, 364, 364⟩]) = true := by decide

/-- Row 228. -/
theorem test_controlDlc :
    nextWith (exec (.controlDlc true 228) (inFrame .control 3 2 true)) (fun t => t.dlc == 1 && t.fieldBitIndex == 4) = true := by
  decide

/-- Row 236: Control(2, 0)[196, 236], the snapshot 0x26F3, DATA. -/
theorem test_controlDlcLast :
    nextWith (exec (.controlDlcLast false 236)
      { inFrame .control 4 1 false with dlc := 1, crc := 0x26F3, fieldStartSample := 196 })
      (fun t => t.state == .data && t.dlc == 2 && t.dataLen == 2 && t.crcSnapshot == 0x26F3 &&
        t.recOut == [⟨.control, 2, 0, 196, 236⟩]) = true := by decide

/-- T-F2: code 15 declares eight bytes; T-F3: a remote frame has no DATA. -/
theorem test_controlDlcLast_clamps :
    nextWith (exec (.controlDlcLast true 244) { inFrame .control 4 1 false with dlc := 7, isData := false })
      (fun t => t.state == .crc15 && t.dlc == 15 && t.dataLen == 8) = true := by decide

/-- Row 364: DataByte(0xCD, 1)[308, 364], the snapshot 0x7F3C, CRC15. -/
theorem test_data :
    nextWith (exec (.data true 364)
      { inFrame .data 15 1 true with
        dataLen := 2, data := ⟨0xAB, 0x66, 0, 0, 0, 0, 0, 0⟩, crc := 0x7F3C, fieldStartSample := 308 })
      (fun t => t.state == .crc15 && t.fieldBitIndex == 0 && t.crcSnapshot == 0x7F3C && t.data == ⟨0xAB, 0xCD, 0, 0, 0, 0, 0, 0⟩ &&
        t.recOut == [⟨.dataByte, 0xCD, 1, 308, 364⟩]) = true := by decide

/-- Row 372. -/
theorem test_crc15Bits :
    nextWith (exec (.crc15Bits true 372) (inFrame .crc15 0 2 true)) (fun t =>
      t.crcRx == 1 && t.fieldBitIndex == 1 && t.fieldStartSample == 372) = true := by decide

/-- Row 492: Crc(0x7F3C, 0)[372, 492]. -/
theorem test_crc15Last :
    nextWith (exec (.crc15Last false 492) { inFrame .crc15 14 2 false with crcRx := 0x3F9E, fieldStartSample := 372 })
      (fun t => t.state == .crcDelimiter && t.recOut == [⟨.crc, 0x7F3C, 0, 372, 492⟩]) = true := by decide

/-- T-E3: residue 0x380A. -/
theorem test_crc15Last_mismatch :
    nextWith (exec (.crc15Last false 492) { inFrame .crc15 14 2 false with crc := 0x380A })
      (fun t => t.state == .decoderError && t.errCause.code == 4 && t.errStartSample == 492 && t.recOut.length == 1) = true := by
  decide

/-- Row 500, and a dominant delimiter. -/
theorem test_crcDelimiter :
    nextWith (exec (.crcDelimiter true 500) (inFrame .crcDelimiter 0 1 true)) (fun t =>
      t.state == .ack && t.destuffActive == false && t.mrkOut == [⟨.recessive, true, 500⟩]) = true ∧
    nextWith (exec (.crcDelimiter false 500) (inFrame .crcDelimiter 0 1 false)) (fun t =>
      t.state == .decoderError && t.errCause.code == 5 && t.runLength == 1) = true := by decide

/-- Row 508. -/
theorem test_ackSlot :
    nextWith (exec (.ackSlot false 508) (inTail .ack 0)) (fun t =>
      t.ackNacked == false && t.fieldBitIndex == 1 && t.fieldStartSample == 508) = true := by decide

/-- Row 516: Ack(0, 0)[508, 516]. -/
theorem test_ackDelimiter :
    nextWith (exec (.ackDelimiter true 516) { inTail .ack 1 with fieldStartSample := 508 })
      (fun t => t.state == .endOfFrame && t.recOut == [⟨.ack, 0, 0, 508, 516⟩]) = true := by decide

/-- Row 572: Eof(0, 0)[524, 572]. -/
theorem test_endOfFrame :
    nextWith (exec (.endOfFrame true 572) { inTail .endOfFrame 6 with fieldStartSample := 524 })
      (fun t => t.state == .intermission && t.recOut == [⟨.eof, 0, 0, 524, 572⟩]) = true := by decide

/-- Row 596: Intermission(512, 2)[580, 596]. -/
theorem test_intermission :
    nextWith (exec (.intermission true 596)
      { inTail .intermission 2 with fieldStartSample := 580, sofSample := 84, stuffBitCount := 2 })
      (fun t => t.state == .idle && t.sofSample == 84 && t.recOut == [⟨.intermission, 512, 2, 580, 596⟩]) = true := by decide

/-- T-E2: DecodeError(0, 0)[132, 172] at the eleventh recessive bit. -/
theorem test_decoderError :
    nextWith (exec (.decoderError true 172) (inRecovery 10 true)) (fun t =>
      t.state == .idle && t.runLength == 0 && t.lastBit && t.errCause.code == 1 && t.errStartSample == 132 &&
      t.recOut == [⟨.decodeError, 0, 0, 132, 172⟩]) = true := by decide

/-- R204. -/
theorem test_stateUnreachable :
    faults (exec (.stateUnreachable11 true 1) session) (.unreachableState 11) = true ∧
    faults (exec (.stateUnreachable12To15 13 true 1) session) (.unreachableState 13) = true := by decide

/-! ## One step, and where the host places a word -/

theorem test_step_waits : nextWith (step State.reset) (· == State.reset) = true := by decide

theorem test_withFetchWord_config :
    nextWith (step (State.reset.withFetchWord 136 0x40000000000000000000000f42401e848))
      (fun t => t.mode == .run && t.samplesPerBit == 8 && t.cmdIn == []) = true := by decide

theorem test_withFetchWord_intermission :
    nextWith (step (State.reset.withFetchWord 8 9)) (fun t =>
      t.state == .decoderError && t.errCause == .formIntermission && t.cmdIn == []) = true := by decide

/-! ## CRC steps T-C3, T-C4b, T-C4c -/

theorem test_crcFeed :
    crcFeed 0x4599 false = 0x4EAB ∧ crcFeed 0x7FFF true = 0x7FFE ∧ crcFeed 0x7FFF false = 0x3A67 := by decide

/-! ## Witnesses: states and operands that meet the hypotheses of the obligations, all together

Each theorem names the obligation it is for. Clauses that are about different inputs have a witness each. -/

theorem session_configured : session.Configured := ⟨by decide, by decide, by decide, by decide⟩

theorem session_inv : session.Inv where
  position := ⟨by decide, by decide⟩
  destuff := by decide
  tracker := by decide
  recovery := by decide
  recorded := by decide
  dataFrame := by decide
  length := by decide
  noDataYet := by decide
  bytesBeyond := by decide
  baseIdentifier := by decide
  extended := by decide
  identifierSoFar := by decide
  snapshot := by decide
  faulted := by decide
  running := fun _ => session_configured
  unconfigured := fun h => absurd h (by decide)
  configuration := .inl session_configured

theorem session_crcAgrees : session.CrcAgrees where
  receiving := by decide
  notYet := by decide
  accepted := by decide

/-- The session at the last CRC bit of a frame whose fourteen CRC bits so far are those of `crcSnapshot` 0x7F3C (T-S1). -/
def atLastCrcBit : State :=
  { inFrame .crc15 14 1 false with
    dlc := 2, dataLen := 2, data := ⟨0xAB, 0xCD, 0, 0, 0, 0, 0, 0⟩, identifier := 0x123, crcSnapshot := 0x7F3C, crcRx := 0x3F9E }

theorem atLastCrcBit_inv : atLastCrcBit.Inv where
  position := ⟨by decide, by decide⟩
  destuff := by decide
  tracker := by decide
  recovery := by decide
  recorded := by decide
  dataFrame := by decide
  length := by decide
  noDataYet := by decide
  bytesBeyond := by decide
  baseIdentifier := by decide
  extended := by decide
  identifierSoFar := by decide
  snapshot := by decide
  faulted := by decide
  running := fun _ => session_configured
  unconfigured := fun h => absurd h (by decide)
  configuration := .inl session_configured

set_option maxRecDepth 4000 in
theorem atLastCrcBit_crcAgrees : atLastCrcBit.CrcAgrees where
  receiving := fun _ => ⟨by decide, by decide⟩
  notYet := by decide
  accepted := by decide

theorem inRecovery_inv : (inRecovery 10 true).Inv where
  position := ⟨by decide, by decide⟩
  destuff := by decide
  tracker := by decide
  recovery := by decide
  recorded := by decide
  dataFrame := by decide
  length := by decide
  noDataYet := by decide
  bytesBeyond := by decide
  baseIdentifier := by decide
  extended := by decide
  identifierSoFar := by decide
  snapshot := by decide
  faulted := by decide
  running := fun _ => session_configured
  unconfigured := fun h => absurd h (by decide)
  configuration := .inl session_configured

/-- A next state there is, from a test of its properties. -/
theorem next_of_nextWith {o : Result} {p : State → Bool} (h : nextWith o p = true) : ∃ t, o = .next t ∧ p t = true := by
  cases o with
  | next s => exact ⟨s, rfl, h⟩
  | fault f => simp [nextWith] at h
  | refused r => simp [nextWith] at h

theorem test_witness_DecodeOfEncodeIsTheInstruction :
    (Instr.reservedOp 7 5).wellFormed = true ∧ (Instr.stateUnreachable12To15 15 true 1).wellFormed = true ∧
    (Instr.seg true 0 80).wellFormed = true := by decide

theorem test_witness_HandlersRunExactlyAtLegalPositions :
    session.PositionLegal ∧ atLastCrcBit.PositionLegal ∧ ∃ t, runHandler false 492 atLastCrcBit = .next t :=
  ⟨session_inv.position, atLastCrcBit_inv.position,
    (next_of_nextWith (p := fun _ => true) (by decide)).imp fun _ h => h.1⟩

/-- The clauses of CONFIG: a reserved bit; bit rate 0 and one above the greatest; one sample per second below the least
ratio; and, accepted, the least and the greatest bit rate, each at the least ratio. -/
theorem test_witness_ConfigIsCheckedThenBeginsASession :
    (State.reset.mode ≠ .fault ∧ session.mode ≠ .fault) ∧ (1 : BitVec 76) ≠ 0 ∧
    ((0 : BitVec 20).toNat < 1 ∧ 1000000 < (1000001 : BitVec 20).toNat) ∧
    (1 ≤ (1000000 : BitVec 20).toNat ∧ (1000000 : BitVec 20).toNat ≤ 1000000 ∧
      (4999999 : BitVec 32).toNat < 5 * (1000000 : BitVec 20).toNat) ∧
    (1 ≤ (1000000 : BitVec 20).toNat ∧ (1000000 : BitVec 20).toNat ≤ 1000000 ∧
      5 * (1000000 : BitVec 20).toNat ≤ (5000000 : BitVec 32).toNat) ∧
    (1 ≤ (1 : BitVec 20).toNat ∧ (1 : BitVec 20).toNat ≤ 1000000 ∧
      5 * (1 : BitVec 20).toNat ≤ (5 : BitVec 32).toNat) := by decide

theorem test_witness_ReservedOpcodeIsRefused :
    4 ≤ (4 : BitVec 3).toNat ∧ 4 ≤ (7 : BitVec 3).toNat ∧ session.mode ≠ .fault ∧
    opcodeOf 0x800000000000000000000000000000000 = 4 ∧ opcodeOf 0xfffffffffffffffffffffffffffffffff = 7 := by decide

/-- Before CONFIG; in RUN a segment of no samples and one that ends before it begins. -/
theorem test_witness_IllegalSegIsRefused :
    State.reset.mode = .unconfigured ∧ session.mode = .run ∧
    (80 : Sample).toNat ≤ (80 : Sample).toNat ∧ (80 : Sample).toNat ≤ (81 : Sample).toNat := by decide

theorem test_witness_FaultModeDiscardsAllButReset :
    isCommandButReset (.seg true 0 80) = true ∧ isCommandButReset (.nop 0) = true ∧
    isCommandButReset (.config 0 false 1000000 125000) = true ∧ isCommandButReset (.reservedOp 4 0) = true ∧
    (refuse .segOrder session).mode = .fault := by decide

theorem test_witness_FirstDominantSegmentIsSkipped :
    ({ session with armed := false } : State).mode = .run ∧ (0 : Sample).toNat < (1 : Sample).toNat ∧
    ({ session with armed := false } : State).armed = false ∧ false = ({ session with armed := false } : State).cfgInverted := by
  decide

/-- An armed session and a dominant segment; a session not yet armed and a recessive one; and a first event. -/
theorem test_witness_AdmittedSegProcessesItsEventsInOrder :
    session.mode = .run ∧ (80 : Sample).toNat < (84 : Sample).toNat ∧ session.samplesPerBit ≠ 0 ∧ session.armed = true ∧
    true ≠ ({ session with armed := false } : State).cfgInverted ∧ 0 < (segmentEvents false 80 84 8).length := by decide

theorem test_witness_AdmittedSegCompletes :
    session.Inv ∧ session.mode = .run ∧ (80 : Sample).toNat < (81 : Sample).toNat :=
  ⟨session_inv, by decide, by decide⟩

/-- The tie of T-X1: 12 samples of 8 per bit are two bits. -/
theorem test_witness_BitCountRoundsToNearest : 0 < 8 ∧ bitCount 12 8 = 2 ∧ 2 * 2 * 8 ≤ 2 * 12 + 8 ∧ 2 * 12 < (2 * 2 + 1) * 8 := by
  decide

/-- T-X8, the last sample numbers there are. -/
theorem test_witness_EventsStayWithinTheirSegment :
    (18446744073709551596 : Sample).toNat < (18446744073709551615 : Sample).toNat ∧ (8 : BitVec 32) ≠ 0 ∧
    0 < bitCount ((18446744073709551615 : Sample).toNat - (18446744073709551596 : Sample).toNat) (8 : BitVec 32).toNat ∧
    0 + 1 < bitCount ((18446744073709551615 : Sample).toNat - (18446744073709551596 : Sample).toNat) (8 : BitVec 32).toNat := by
  decide

theorem test_witness_StepRunsTheDecodedCommand :
    session.cmdIn = [] ∧ ({ session with cmdIn := [asmNop, asmReset] } : State).cmdIn = asmNop :: [asmReset] ∧
    decode (.cmd asmNop) = .ok (decodeCommand asmNop) := ⟨rfl, rfl, rfl⟩

/-- The instruction is determined; here the violation, whose key is 0111. -/
theorem test_witness_BitEventRunsTheSelectedCase :
    (inFrame .identifier 5 5 true).state ≠ .decoderError ∧ (inFrame .identifier 5 5 true).destuffActive ≠ false ∧
    destuffKey (inFrame .identifier 5 5 true) true = 0b0111 ∧ destuffKey (inRecovery 9 true) true = 0b1001 := by decide

theorem test_witness_StuffBitIsRemoved :
    (inFrame .control 3 5 false).state ≠ .decoderError ∧ (inFrame .control 3 5 false).destuffActive = true ∧
    (inFrame .control 3 5 false).runLength = 5 ∧ true ≠ (inFrame .control 3 5 false).lastBit := by decide

theorem test_witness_SixthIdenticalBitIsAStuffingViolation :
    (inFrame .identifier 5 5 true).state ≠ .decoderError ∧ (inFrame .identifier 5 5 true).destuffActive = true ∧
    (inFrame .identifier 5 5 true).runLength = 5 ∧ true = (inFrame .identifier 5 5 true).lastBit := by decide

/-- INACTIVE; SAME and CHANGE at the greatest run that is not yet five. -/
theorem test_witness_ForwardingCasesTrackThenForward :
    ((inTail .ack 0).state ≠ .decoderError ∧ (inTail .ack 0).destuffActive = false) ∧
    ((inFrame .crc15 3 4 true).state ≠ .decoderError ∧ (inFrame .crc15 3 4 true).destuffActive = true ∧
      (inFrame .crc15 3 4 true).runLength.toNat ≤ 4 ∧ true = (inFrame .crc15 3 4 true).lastBit ∧
      false ≠ (inFrame .crc15 3 4 true).lastBit) := by decide

theorem test_witness_ForwardingCasesComplete : atLastCrcBit.PositionLegal ∧
    (Instr.dsSame false 492 = .dsInactive false 492 ∨ Instr.dsSame false 492 = .dsSame false 492 ∨
      Instr.dsSame false 492 = .dsChange false 492) :=
  ⟨atLastCrcBit_inv.position, .inr (.inl rfl)⟩

/-- A position where the engine is fed and one where it is not. -/
theorem test_witness_ForwardFeedsTheCrcThenRunsTheHandler :
    (decodesTo (.handler atLastCrcBit.state.code atLastCrcBit.fieldBitIndex false 492) (.crc15Last false 492) = true ∧
      atLastCrcBit.state ∈ [FieldState.identifier, .extIdentifier, .control, .data, .crc15]) ∧
    (decodesTo (.handler (inTail .ack 1).state.code (inTail .ack 1).fieldBitIndex true 516) (.ackDelimiter true 516) = true ∧
      (inTail .ack 1).state ∉ [FieldState.identifier, .extIdentifier, .control, .data, .crc15]) := by decide

/-- The indices of `Selects`, at both ends of the widest range: DATA. -/
theorem test_witness_Selects :
    (0 ≤ (0 : BitVec 7).toNat ∧ (0 : BitVec 7).toNat ≤ 63) ∧ (0 ≤ (63 : BitVec 7).toNat ∧ (63 : BitVec 7).toNat ≤ 63) := by
  decide

/-- The first bit of a frame's only byte, and the last bit of the eighth. -/
theorem test_witness_DataBitIsShiftedIntoItsByte :
    (let s := { inFrame .data 0 1 true with dataLen := 1 }
     s.dataLen.toNat ≤ 8 ∧ s.fieldBitIndex.toNat < 8 * s.dataLen.toNat ∧ (0 : Fin 8).val = s.fieldBitIndex.toNat / 8) ∧
    (let s := { inFrame .data 63 1 true with dataLen := 8 }
     s.dataLen.toNat ≤ 8 ∧ s.fieldBitIndex.toNat < 8 * s.dataLen.toNat ∧ (7 : Fin 8).val = s.fieldBitIndex.toNat / 8 ∧
       s.fieldBitIndex.toNat + 1 = 8 * s.dataLen.toNat) := by decide

theorem test_witness_FifteenthCrcBitJudgesTheResidue :
    (inFrame .crc15 14 1 false).crc = 0 ∧ ({ inFrame .crc15 14 1 false with crc := 0x380A } : State).crc ≠ 0 := by decide

theorem test_witness_EndOfFrameMustBeRecessive :
    (inTail .endOfFrame 0).fieldBitIndex = 0 ∧ (inTail .endOfFrame 5).fieldBitIndex.toNat < 6 ∧
    (inTail .endOfFrame 6).fieldBitIndex.toNat = 6 := by decide

theorem test_witness_IntermissionMustBeRecessive :
    (inTail .intermission 0).fieldBitIndex = 0 ∧ (inTail .intermission 1).fieldBitIndex.toNat < 2 ∧
    (inTail .intermission 2).fieldBitIndex.toNat = 2 := by decide

/-- The tenth and the eleventh recessive bit of a run, a dominant bit, and the saturated count. -/
theorem test_witness_ErrorBitCountsElevenRecessiveBits :
    (10 = (if true = (inRecovery 9 true).lastBit then min ((inRecovery 9 true).runLength.toNat + 1) 15 else 1) ∧ 10 < 11) ∧
    (11 = (if true = (inRecovery 10 true).lastBit then min ((inRecovery 10 true).runLength.toNat + 1) 15 else 1) ∧ 11 ≤ 11) ∧
    1 = (if false = (inRecovery 10 true).lastBit then min ((inRecovery 10 true).runLength.toNat + 1) 15 else 1) ∧
    15 = (if false = (inRecovery 15 false).lastBit then min ((inRecovery 15 false).runLength.toNat + 1) 15 else 1) := by decide

theorem test_witness_UnreachablePositionsStopByName :
    8 * session.dataLen.toNat ≤ session.fieldBitIndex.toNat ∧ 12 ≤ (12 : BitVec 4).toNat ∧ 12 ≤ (15 : BitVec 4).toNat := by decide

theorem test_witness_CrcIsLinearAndDetectsSingleBitErrors :
    (0x4599 : BitVec 15) = crcFeedAll 0 ([false, false] ++ true :: []) := by decide

/-- A command that runs a whole segment, from a state with the invariant and the agreement. -/
theorem test_witness_EveryStepKeepsTheInvariant_and_TheCrcAgreement :
    ∃ s t : State, s.Inv ∧ s.CrcAgrees ∧ s.state = .crc15 ∧ step s = .next t ∧ t.state = .crcDelimiter := by
  refine ⟨{ atLastCrcBit with cmdIn := [asmSeg false 488 496] }, ?_⟩
  obtain ⟨t, ht, hp⟩ := next_of_nextWith (o := step { atLastCrcBit with cmdIn := [asmSeg false 488 496] })
    (p := fun t => t.state == .crcDelimiter) (by decide)
  obtain ⟨h1, h2, h3, h4, h5, h6, h7, h8, h9, h10, h11, h12, h13, h14, h15, h16, h17⟩ := atLastCrcBit_inv
  obtain ⟨c1, c2, c3⟩ := atLastCrcBit_crcAgrees
  exact ⟨t, ⟨h1, h2, h3, h4, h5, h6, h7, h8, h9, h10, h11, h12, h13, h14, h15, h16, h17⟩, ⟨c1, c2, c3⟩, rfl, ht, by simpa using hp⟩

theorem test_witness_NoStepStops : session.Inv := session_inv

theorem test_witness_EveryMoveIsARowOfTheTransitionTable_and_OneMarker :
    atLastCrcBit.Inv ∧ ∃ t, processBitEvent false 492 atLastCrcBit = .next t :=
  ⟨atLastCrcBit_inv, (next_of_nextWith (p := fun _ => true) (by decide)).imp fun _ h => h.1⟩

theorem test_witness_OutputIsAppendOnly :
    ∃ t, step { session with cmdIn := [asmSeg false 80 104] } = .next t ∧ t.mrkOut.length = 3 :=
  (next_of_nextWith (p := fun t => t.mrkOut.length == 3) (by decide)).imp fun _ h => ⟨h.1, by simpa using h.2⟩

/-- In FAULT a discarded command and a reset; outside it the way to each of the three modes. -/
theorem test_witness_ModesMoveByCommandsOnly :
    (∃ t, step { refuse .segOrder session with cmdIn := [asmNop] } = .next t ∧ t.mode = .fault) ∧
    (∃ t, step { refuse .segOrder session with cmdIn := [asmReset] } = .next t ∧ t.mode = .unconfigured) ∧
    (∃ t, step { session with cmdIn := [asmReset] } = .next t ∧ t.mode = .unconfigured) ∧
    (∃ t, step { State.reset with cmdIn := [asmConfig 125000 1000000 false] } = .next t ∧ t.mode = .run) ∧
    (∃ t, step { session with cmdIn := [asmSeg true 80 80] } = .next t ∧ t.mode = .fault) :=
  ⟨(next_of_nextWith (p := fun t => t.mode == .fault) (by decide)).imp fun _ h => ⟨h.1, by simpa using h.2⟩,
   (next_of_nextWith (p := fun t => t.mode == .unconfigured) (by decide)).imp fun _ h => ⟨h.1, by simpa using h.2⟩,
   (next_of_nextWith (p := fun t => t.mode == .unconfigured) (by decide)).imp fun _ h => ⟨h.1, by simpa using h.2⟩,
   (next_of_nextWith (p := fun t => t.mode == .run) (by decide)).imp fun _ h => ⟨h.1, by simpa using h.2⟩,
   (next_of_nextWith (p := fun t => t.mode == .fault) (by decide)).imp fun _ h => ⟨h.1, by simpa using h.2⟩⟩

theorem test_witness_DominantLevelKeepsRecovering :
    (inRecovery 10 true).state = .decoderError ∧ [(140 : Sample)] ≠ [] ∧ 15 ≤ (List.replicate 15 (140 : Sample)).length := by decide

theorem test_witness_ElevenRecessiveBitsEndRecovery :
    (inRecovery 10 true).Inv ∧ (inRecovery 10 true).state = .decoderError ∧ 11 ≤ (List.replicate 11 (140 : Sample)).length :=
  ⟨inRecovery_inv, by decide, by decide⟩

theorem test_witness_SeventeenRecessiveBitsReachIdle : atLastCrcBit.Inv ∧ (List.replicate 17 (140 : Sample)).length = 17 :=
  ⟨atLastCrcBit_inv, by decide⟩

theorem test_witness_DestuffingInvertsStuffing :
    (inFrame .identifier 0 1 false).state ≠ .decoderError ∧ (inFrame .identifier 0 1 false).destuffActive = true ∧
    (inFrame .identifier 0 1 false).runLength = 1 ∧ (inFrame .identifier 0 1 false).lastBit = false := by decide

theorem test_witness_BitsMacroYieldsItsBitString :
    session.Inv ∧ session.mode = .run ∧ session.armed = true ∧
    80 + [false, true, true].length * session.samplesPerBit.toNat < 2 ^ 64 :=
  ⟨session_inv, by decide, by decide, by decide⟩

/-- A base data frame, a base remote frame and an extended frame. -/
theorem test_witness_EncodedFrameIsDecodedExactly :
    FrameSpec.Valid ⟨0x123, false, false, 2, [0xAB, 0xCD], true⟩ ∧ FrameSpec.Valid ⟨0x7FF, false, true, 8, [], true⟩ ∧
    FrameSpec.Valid ⟨0x1FFFFFFF, true, false, 0, [], false⟩ ∧ session.Inv ∧ session.state = .idle :=
  ⟨⟨by decide, by decide, by decide⟩, ⟨by decide, by decide, by decide⟩, ⟨by decide, by decide, by decide⟩, session_inv, by decide⟩

set_option maxRecDepth 8000 in
/-- The frame of T-S1 after one idle bit. -/
theorem test_witness_FramePresentedByCommandsIsReportedExactly :
    FrameSpec.Valid ⟨0x123, false, false, 2, [0xAB, 0xCD], true⟩ ∧ session.Inv ∧ session.mode = .run ∧
    session.state = .idle ∧ 1 ≤ 1 ∧
    80 + (1 + (FrameSpec.encode ⟨0x123, false, false, 2, [0xAB, 0xCD], true⟩).length) * session.samplesPerBit.toNat < 2 ^ 64 :=
  ⟨⟨by decide, by decide, by decide⟩, session_inv, by decide, by decide, by decide,
    by rw [show (FrameSpec.encode ⟨0x123, false, false, 2, [0xAB, 0xCD], true⟩).length = 65 from rfl]; decide⟩

end Sys2Proof.Tests
end

namespace Sys2Proof.Machine

/-! ## Bit strings presented by `bits` (R114)

Each run of a bit string becomes one SEG, and in an armed session that SEG hands the De-stuffer exactly the BitEvents of its
run. The proof follows the list of runs. -/

/-! ### Command words one after another -/

/-- Two sequences agree when their second parts agree at every state the first part answers. -/
theorem andThen_congr {o : Result} {k l : State → Result} (h : ∀ s, o = .next s → k s = l s) :
    andThen o k = andThen o l := by
  cases o with
  | next s => exact h s rfl
  | fault f => rfl
  | refused r => rfl

/-- Command words executed in order, each wholly before the next (R66); the first stop ends the sequence. -/
def execWords : List CmdWord → State → Result
  | [], s => .next s
  | w :: rest, s => andThen (exec (decodeCommand w) s) (execWords rest)

/-- Folding over command words, as the statements about `bits` write it, is executing them in order. -/
theorem foldl_andThen_exec (ws : List CmdWord) (o : Result) :
    ws.foldl (fun r w => andThen r (exec (decodeCommand w))) o = andThen o (execWords ws) := by
  induction ws generalizing o with
  | nil => cases o <;> rfl
  | cons w rest ih => rw [List.foldl_cons, ih, andThen_assoc]; rfl

/-! ### One SEG of an armed session -/

/-- An armed session with sampling period `S` and polarity `inverted`: what a SEG's extraction reads of the state. -/
structure State.ArmedSession (S : BitVec 32) (inverted : Bool) (s : State) : Prop where
  mode : s.mode = .run
  armed : s.armed = true
  samplesPerBit : s.samplesPerBit = S
  cfgInverted : s.cfgInverted = inverted

/-- BitEvents do not touch the session. -/
theorem BitEventFrame.armedSession {S : BitVec 32} {inverted : Bool} {s t : State} (f : BitEventFrame s t)
    (h : s.ArmedSession S inverted) : t.ArmedSession S inverted where
  mode := f.mode.trans h.mode
  armed := f.armed.trans h.armed
  samplesPerBit := f.samplesPerBit.trans h.samplesPerBit
  cfgInverted := f.cfgInverted.trans h.cfgInverted

/-- In mode RUN the sampling period is at least 5 (R24). -/
theorem State.Inv.five_le_samplesPerBit {s : State} (h : s.Inv) (hrun : s.mode = .run) : 5 ≤ s.samplesPerBit.toNat := by
  obtain ⟨hpos, -, hratio, hquot⟩ := h.running hrun
  rw [hquot]
  exact (Nat.le_div_iff_mul_le hpos).2 hratio

theorem decodeCommand_asmSeg (l : Level) (a e : Sample) : decodeCommand (asmSeg l a e) = .seg l a e := by
  simp [decodeCommand, asmSeg, opcodeOf_commandWord, decodeSeg_commandWord]

@[simp] theorem bitValue_xor_self (v inverted : Bool) : bitValue (v ^^ inverted) inverted = v := by
  simp [bitValue]

theorem State.with_armed_eq_self {s : State} (h : s.armed = true) : { s with armed := true } = s := by
  rw [← h]

/-- In an armed session every segment is extracted (R140). -/
theorem extract_of_armedSession {S : BitVec 32} {inverted : Bool} {s : State} (h : s.ArmedSession S inverted)
    (hS : S ≠ 0) (l : Level) (a e : Sample) :
    extract l a e s = processBitEvents (segmentEvents (bitValue l inverted) a e S) s := by
  obtain ⟨-, harmed, rfl, rfl⟩ := h
  unfold extract
  rw [if_neg (by simp [harmed]), if_neg hS, State.with_armed_eq_self harmed]

/-- A segment that ends after it begins is admitted in mode RUN (R125). -/
theorem execSeg_of_run {s : State} (h : s.mode = .run) (l : Level) {a e : Sample} (hae : a.toNat < e.toNat) :
    execSeg l a e s = extract l a e s := by
  rw [execSeg, unlessFault, if_neg (by simp [h]), if_neg (by simp [h]), if_neg (by omega)]

/-! ### A run's segment -/

/-- A sample number below 2^64 is its own value (R14). -/
theorem toNat_ofNat_sample {t : Nat} (h : t < 2 ^ 64) : (BitVec.ofNat 64 t : Sample).toNat = t := by
  rw [BitVec.toNat_ofNat, Nat.mod_eq_of_lt h]

/-- A segment of `m` whole bit periods holds `m` bits (R142). -/
theorem bitCount_mul {S : Nat} (hS : 0 < S) (m : Nat) : bitCount (m * S) S = m := by
  have hsplit : 2 * (m * S) + S = S + 2 * S * m := by ring
  rw [bitCount, hsplit, Nat.add_mul_div_left _ _ (by omega), Nat.div_eq_of_lt (by omega), Nat.zero_add]

theorem eventsOf_append (S t : Nat) (xs ys : List Bit) :
    eventsOf S t (xs ++ ys) = eventsOf S t xs ++ eventsOf S (t + xs.length * S) ys := by
  induction xs generalizing t with
  | nil => simp [eventsOf]
  | cons b xs ih =>
    have hshift : t + S + xs.length * S = t + (xs.length + 1) * S := by ring
    simp [eventsOf, ih, hshift]

/-- The BitEvents of `m` equal bits, by their offsets. -/
theorem eventsOf_replicate (S t m : Nat) (v : Bit) :
    eventsOf S t (List.replicate m v) = (List.range m).map fun k => (v, BitVec.ofNat 64 (t + S / 2 + k * S)) := by
  induction m generalizing t with
  | zero => rfl
  | succ m ih =>
    have hshift (k : Nat) : t + S + S / 2 + k * S = t + S / 2 + (k + 1) * S := by ring
    simp [List.replicate_succ, eventsOf, ih, List.range_succ_eq_map, hshift]

/-- The segment of `m` whole bit periods from sample `t` is that run of the bit string (R142, R143). -/
theorem segmentEvents_eq_eventsOf {S : BitVec 32} (hS : 0 < S.toNat) (v : Bit) {t m : Nat}
    (hend : t + m * S.toNat < 2 ^ 64) :
    segmentEvents v (BitVec.ofNat 64 t) (BitVec.ofNat 64 (t + m * S.toNat)) S =
      eventsOf S.toNat t (List.replicate m v) := by
  have ht : (BitVec.ofNat 64 t).toNat = t := toNat_ofNat_sample (by omega)
  have hrun : (BitVec.ofNat 64 (t + m * S.toNat)).toNat - t = m * S.toNat := by
    rw [toNat_ofNat_sample hend, Nat.add_sub_cancel_left]
  simp only [segmentEvents, samplePoint, ht, hrun, bitCount_mul hS, eventsOf_replicate]

/-- The SEG of a run of `m` bits, executed in an armed session. -/
theorem exec_asmSeg_run {S : BitVec 32} {inverted : Bool} {s : State} (h : s.ArmedSession S inverted)
    (hS : 0 < S.toNat) (v : Bit) {t m : Nat} (hm : 0 < m) (hend : t + m * S.toNat < 2 ^ 64) :
    exec (decodeCommand (asmSeg (v ^^ inverted) (BitVec.ofNat 64 t) (BitVec.ofNat 64 (t + m * S.toNat)))) s =
      processBitEvents (eventsOf S.toNat t (List.replicate m v)) s := by
  have hS0 : S ≠ 0 := by rintro rfl; simp at hS
  have hpos : 0 < m * S.toNat := Nat.mul_pos hm hS
  have horder : (BitVec.ofNat 64 t).toNat < (BitVec.ofNat 64 (t + m * S.toNat)).toNat := by
    rw [toNat_ofNat_sample (by omega), toNat_ofNat_sample hend]
    omega
  calc exec (decodeCommand (asmSeg (v ^^ inverted) (BitVec.ofNat 64 t) (BitVec.ofNat 64 (t + m * S.toNat)))) s
      = execSeg (v ^^ inverted) (BitVec.ofNat 64 t) (BitVec.ofNat 64 (t + m * S.toNat)) s := by
        rw [decodeCommand_asmSeg]; rfl
    _ = processBitEvents (eventsOf S.toNat t (List.replicate m v)) s := by
        rw [execSeg_of_run h.mode _ horder, extract_of_armedSession h hS0, bitValue_xor_self,
          segmentEvents_eq_eventsOf hS v hend]

/-! ### The runs of a bit string -/

/-- The bit string a list of runs spells. -/
def bitsOfRuns (runs : List (Bit × Nat)) : List Bit := runs.flatMap fun r => List.replicate r.2 r.1

theorem bitsOfRuns_cons (v : Bit) (m : Nat) (runs : List (Bit × Nat)) :
    bitsOfRuns ((v, m) :: runs) = List.replicate m v ++ bitsOfRuns runs := List.flatMap_cons

/-- The runs of a bit string spell it. -/
theorem bitsOfRuns_runsOf (bits : List Bit) : bitsOfRuns (runsOf bits) = bits := by
  induction bits with
  | nil => rfl
  | cons b rest ih =>
    rw [runsOf]
    split
    case h_1 v m more hruns =>
      rw [hruns, bitsOfRuns_cons] at ih
      split_ifs with hv
      · subst hv
        rw [bitsOfRuns_cons, List.replicate_succ, List.cons_append, ih]
      · rw [bitsOfRuns_cons, bitsOfRuns_cons, ih]
        rfl
    case h_2 hruns =>
      rw [hruns] at ih
      rw [← ih]
      rfl

/-- No run is empty. -/
theorem runsOf_length_pos (bits : List Bit) : ∀ r ∈ runsOf bits, 0 < r.2 := by
  induction bits with
  | nil => simp [runsOf]
  | cons b rest ih =>
    rw [runsOf]
    split
    case h_1 v m more hruns =>
      rw [hruns, List.forall_mem_cons] at ih
      split_ifs
      · exact List.forall_mem_cons.2 ⟨Nat.succ_pos m, ih.2⟩
      · exact List.forall_mem_cons.2 ⟨Nat.one_pos, List.forall_mem_cons.2 ih⟩
    case h_2 => simp

/-- The segments of nonempty runs, executed in an armed session, are the BitEvents of the bit string the runs spell. -/
theorem execWords_segsOfRuns {S : BitVec 32} {inverted : Bool} (hS : 0 < S.toNat) (runs : List (Bit × Nat)) {t : Nat}
    {s : State} (h : s.ArmedSession S inverted) (hpos : ∀ r ∈ runs, 0 < r.2)
    (hend : t + (bitsOfRuns runs).length * S.toNat < 2 ^ 64) :
    execWords (segsOfRuns S.toNat inverted t runs) s = processBitEvents (eventsOf S.toNat t (bitsOfRuns runs)) s := by
  induction runs generalizing t s with
  | nil => rfl
  | cons r rest ih =>
    obtain ⟨v, m⟩ := r
    obtain ⟨hm, hrest⟩ := List.forall_mem_cons.1 hpos
    rw [bitsOfRuns_cons, List.length_append, List.length_replicate, Nat.add_mul, ← Nat.add_assoc] at hend
    rw [bitsOfRuns_cons, eventsOf_append, List.length_replicate, processBitEvents_append, segsOfRuns, execWords,
      exec_asmSeg_run h hS v hm (Nat.lt_of_le_of_lt (Nat.le_add_right _ _) hend)]
    exact andThen_congr fun u hu => ih ((frame_processBitEvents hu).armedSession h) hrest hend

/-- Settles O58, by induction on the runs of the bit string: each run's SEG hands over its own BitEvents and keeps the
session. -/
theorem bitsMacroYieldsItsBitString : Obligations.BitsMacroYieldsItsBitString := by
  unfold Obligations.BitsMacroYieldsItsBitString
  intro bits t0 s hinv hrun harmed hend
  have hS : 0 < s.samplesPerBit.toNat := by have := hinv.five_le_samplesPerBit hrun; omega
  rw [foldl_andThen_exec, andThen_next, bitsMacro,
    execWords_segsOfRuns hS _ ⟨hrun, harmed, rfl, rfl⟩ (runsOf_length_pos bits) (by rwa [bitsOfRuns_runsOf]),
    bitsOfRuns_runsOf]

end Sys2Proof.Machine

namespace Sys2Proof.Machine

/-! ### NOP in every mode -/

/-- NOP's arm of `exec`. -/
theorem exec_nop (p : BitVec 129) (s : State) : exec (.nop p) s = execNop p s := rfl

/-- The FAULT guard cannot be seen around a command that changes nothing: in FAULT it ignores the command (R120), outside
it runs the command, and either way the state stays. -/
theorem unlessFault_next_self (s : State) : unlessFault s (.next s) = .next s := by
  by_cases hfault : s.mode = .fault
  · rw [unlessFault, if_pos hfault]
  · rw [unlessFault, if_neg hfault]

/-- Settles O7: NOP leaves the state alone outside FAULT, and in FAULT every such command is ignored. -/
theorem nopChangesNothing : Obligations.NopChangesNothing := by
  unfold Obligations.NopChangesNothing
  intro p s
  rw [exec_nop, execNop, unlessFault_next_self]

end Sys2Proof.Machine

namespace Sys2Proof.Machine

/-! ## The De-stuffer's dispatch (R160)

The case a BitEvent runs is said once, by `destuffCase`; the key's decoder and `processBitEvent` both select it, and the
conditions of R161 to R165 each name it. -/

/-! ### The bits of the key -/

theorem destuffKey_getLsbD_three (s : State) (b : Bit) :
    (destuffKey s b).getLsbD 3 = decide (s.state = .decoderError) := by
  simp only [destuffKey, BitVec.getLsbD_append, BitVec.getLsbD_ofBool]
  rfl

theorem destuffKey_getLsbD_two (s : State) (b : Bit) : (destuffKey s b).getLsbD 2 = s.destuffActive := by
  simp only [destuffKey, BitVec.getLsbD_append, BitVec.getLsbD_ofBool]
  rfl

theorem destuffKey_getLsbD_one (s : State) (b : Bit) :
    (destuffKey s b).getLsbD 1 = decide (s.runLength = 5) := by
  simp only [destuffKey, BitVec.getLsbD_append, BitVec.getLsbD_ofBool]
  rfl

theorem destuffKey_getLsbD_zero (s : State) (b : Bit) :
    (destuffKey s b).getLsbD 0 = decide (b = s.lastBit) := by
  simp only [destuffKey, BitVec.getLsbD_append, BitVec.getLsbD_ofBool]
  rfl

/-! ### The selected case -/

/-- The case of a BitEvent, with the tests in the order of R160. -/
def destuffCase (b : Bit) (n : Sample) (s : State) : Instr :=
  if s.state = .decoderError then .dsErrorbit b n
  else if s.destuffActive = false then .dsInactive b n
  else if s.runLength = 5 ∧ b ≠ s.lastBit then .dsStuffBit b n
  else if s.runLength = 5 ∧ b = s.lastBit then .dsViolation b n
  else if b = s.lastBit then .dsSame b n
  else .dsChange b n

theorem processBitEvent_eq_exec_destuffCase (b : Bit) (n : Sample) (s : State) :
    processBitEvent b n s = exec (destuffCase b n s) s := by
  unfold processBitEvent destuffCase
  split_ifs <;> rfl

/-- The two tests of R160 for a run of five are one test of the run, then one of the bit. -/
theorem destuffCase_eq_runLength_first (b : Bit) (n : Sample) (s : State) :
    destuffCase b n s =
      if s.state = .decoderError then .dsErrorbit b n
      else if s.destuffActive = false then .dsInactive b n
      else if s.runLength = 5 then (if b = s.lastBit then .dsViolation b n else .dsStuffBit b n)
      else if b = s.lastBit then .dsSame b n else .dsChange b n := by
  unfold destuffCase
  by_cases hrun : s.runLength = 5
  · by_cases hb : b = s.lastBit <;> simp [hrun, hb]
  · simp only [hrun, false_and, if_false]

/-- The key's decoder selects the same case: each key bit is one test. -/
theorem decodeDestuff_destuffKey (b : Bit) (n : Sample) (s : State) :
    decodeDestuff (destuffKey s b) b n = destuffCase b n s := by
  simp only [decodeDestuff, destuffKey_getLsbD_three, destuffKey_getLsbD_two, destuffKey_getLsbD_one,
    destuffKey_getLsbD_zero, decide_eq_true_eq, destuffCase_eq_runLength_first]

/-- Settles O18: the dispatch and the key's decoder both select `destuffCase`, and each key bit is one of its tests. -/
theorem bitEventRunsTheSelectedCase : Obligations.BitEventRunsTheSelectedCase := by
  unfold Obligations.BitEventRunsTheSelectedCase
  rintro b n s i rfl
  exact ⟨processBitEvent_eq_exec_destuffCase b n s, congrArg Except.ok (decodeDestuff_destuffKey b n s),
    by rw [destuffKey_getLsbD_three, decide_eq_true_iff], destuffKey_getLsbD_two s b,
    by rw [destuffKey_getLsbD_one, decide_eq_true_iff], by rw [destuffKey_getLsbD_zero, decide_eq_true_iff]⟩

/-! ### Each case by its condition -/

/-- De-stuffing is in progress: a BitEvent runs one of the four cases of R162 to R165. -/
structure State.Destuffing (s : State) : Prop where
  state : s.state ≠ .decoderError
  active : s.destuffActive = true

section
variable {b : Bit} {n : Sample} {s : State}

theorem destuffCase_eq_dsInactive (hstate : s.state ≠ .decoderError) (hinactive : s.destuffActive = false) :
    destuffCase b n s = .dsInactive b n := by
  rw [destuffCase, if_neg hstate, if_pos hinactive]

/-- While de-stuffing, the case turns on whether the run calls for a stuff bit and whether the bit repeats. -/
theorem destuffCase_of_destuffing (h : s.Destuffing) :
    destuffCase b n s =
      if s.runLength = 5 then (if b = s.lastBit then .dsViolation b n else .dsStuffBit b n)
      else if b = s.lastBit then .dsSame b n else .dsChange b n := by
  rw [destuffCase_eq_runLength_first, if_neg h.state, if_neg (by simp [h.active])]

theorem destuffCase_eq_dsStuffBit (h : s.Destuffing) (hrun : s.runLength = 5) (hb : b ≠ s.lastBit) :
    destuffCase b n s = .dsStuffBit b n := by
  rw [destuffCase_of_destuffing h, if_pos hrun, if_neg hb]

theorem destuffCase_eq_dsViolation (h : s.Destuffing) (hrun : s.runLength = 5) (hb : b = s.lastBit) :
    destuffCase b n s = .dsViolation b n := by
  rw [destuffCase_of_destuffing h, if_pos hrun, if_pos hb]

theorem destuffCase_eq_dsSame (h : s.Destuffing) (hrun : s.runLength ≠ 5) (hb : b = s.lastBit) :
    destuffCase b n s = .dsSame b n := by
  rw [destuffCase_of_destuffing h, if_neg hrun, if_pos hb]

theorem destuffCase_eq_dsChange (h : s.Destuffing) (hrun : s.runLength ≠ 5) (hb : b ≠ s.lastBit) :
    destuffCase b n s = .dsChange b n := by
  rw [destuffCase_of_destuffing h, if_neg hrun, if_neg hb]

/-- A run of at most four does not call for a stuff bit. -/
theorem runLength_ne_five (hrun : s.runLength.toNat ≤ 4) : s.runLength ≠ 5 := by
  intro h
  simp [h] at hrun

/-- Below saturation SAME counts one more bit (R164). -/
theorem trackSame_eq_add_one (hrun : s.runLength.toNat ≤ 14) :
    trackSame s = { s with runLength := s.runLength + 1 } := by
  rw [trackSame, runNext_eq_add_one hrun]

end

/-! ### What each case does -/

theorem exec_dsStuffBit (b : Bit) (n : Sample) (s : State) :
    exec (.dsStuffBit b n) s = .next
      { s with
        runLength := 1, lastBit := b, stuffBitCount := s.stuffBitCount + 1
        mrkOut := s.markersWith .stuff b n } := rfl

theorem exec_dsViolation (b : Bit) (n : Sample) (s : State) :
    exec (.dsViolation b n) s = .next
      { s with
        runLength := 6, state := .decoderError, fieldBitIndex := 0, destuffActive := false
        errStartSample := n, errCause := .stuff, mrkOut := s.markersWith .stuffError b n } := rfl

theorem exec_dsInactive (b : Bit) (n : Sample) (s : State) : exec (.dsInactive b n) s = forward b n s := rfl

theorem exec_dsSame (b : Bit) (n : Sample) (s : State) : exec (.dsSame b n) s = forward b n (trackSame s) := rfl

theorem exec_dsChange (b : Bit) (n : Sample) (s : State) :
    exec (.dsChange b n) s = forward b n (trackRestart b s) := rfl

/-- Settles O19. -/
theorem stuffBitIsRemoved : Obligations.StuffBitIsRemoved := by
  unfold Obligations.StuffBitIsRemoved
  refine fun b n s => ⟨exec_dsStuffBit b n s, fun hstate hactive hrun hb => ?_⟩
  rw [processBitEvent_eq_exec_destuffCase, destuffCase_eq_dsStuffBit ⟨hstate, hactive⟩ hrun hb]

/-- Settles O20. -/
theorem sixthIdenticalBitIsAStuffingViolation : Obligations.SixthIdenticalBitIsAStuffingViolation := by
  unfold Obligations.SixthIdenticalBitIsAStuffingViolation
  refine fun b n s => ⟨exec_dsViolation b n s, fun hstate hactive hrun hb => ?_⟩
  rw [processBitEvent_eq_exec_destuffCase, destuffCase_eq_dsViolation ⟨hstate, hactive⟩ hrun hb]

/-- Settles O21: each case's meaning, then each case's condition. -/
theorem forwardingCasesTrackThenForward : Obligations.ForwardingCasesTrackThenForward := by
  unfold Obligations.ForwardingCasesTrackThenForward
  refine fun b n s => ⟨exec_dsInactive b n s, fun hrun => ?_, exec_dsChange b n s, fun hstate hinactive => ?_,
    fun hstate hactive hrun hb => ?_, fun hstate hactive hrun hb => ?_⟩
  · rw [exec_dsSame, trackSame_eq_add_one (by omega)]
  · rw [processBitEvent_eq_exec_destuffCase, destuffCase_eq_dsInactive hstate hinactive]
  · rw [processBitEvent_eq_exec_destuffCase, destuffCase_eq_dsSame ⟨hstate, hactive⟩ (runLength_ne_five hrun) hb]
  · rw [processBitEvent_eq_exec_destuffCase, destuffCase_eq_dsChange ⟨hstate, hactive⟩ (runLength_ne_five hrun) hb]

/-! ## De-stuffing inverts stuffing (R169)

The transmitter's run and the De-stuffer's tracker count alike. Up to a run of four both pass the bit on and count it; after
a run of five the transmitter inserts one bit, the De-stuffer removes it, and both go on with that bit as a new run. -/

/-! ### The tracker on raw bits -/

theorem State.Destuffing.trackRestart {s : State} (h : s.Destuffing) (b : Bit) : (trackRestart b s).Destuffing :=
  ⟨h.state, h.active⟩

theorem State.Destuffing.trackRaw {s : State} (h : s.Destuffing) (b : Bit) : (trackRaw b s).Destuffing where
  state := by simpa using h.state
  active := by simpa using h.active

/-- Below saturation the tracker counts a repeated bit and restarts at a changed one. -/
theorem trackRaw_runLength_toNat {s : State} (hrun : s.runLength.toNat ≤ 14) (b : Bit) :
    (trackRaw b s).runLength.toNat = if b = s.lastBit then s.runLength.toNat + 1 else 1 := by
  rw [trackRaw_runLength, apply_ite BitVec.toNat, runNext_toNat, Nat.min_eq_left (by omega)]
  rfl

/-! ### The transmitter -/

/-- After a run of five the transmitter inserts the opposite bit and goes on as if it were the first of a run. -/
theorem stuffFrom_five (last : Bit) (L : List Bit) : stuffFrom 5 last L = (!last) :: stuffFrom 1 (!last) L := by
  cases L with
  | nil => simp [stuffFrom]
  | cons b rest => by_cases hb : b = !last <;> simp [stuffFrom, hb]

theorem stuffFrom_nil_of_short {run : Nat} (hrun : run ≤ 4) (last : Bit) : stuffFrom run last [] = [] := by
  rw [stuffFrom, if_neg (by omega)]

/-- A run of at most four passes the next bit on and counts it. -/
theorem stuffFrom_cons_of_short {run : Nat} (hrun : run ≤ 4) (last b : Bit) (rest : List Bit) :
    stuffFrom run last (b :: rest) = b :: stuffFrom (if b = last then run + 1 else 1) b rest := by
  rw [stuffFrom, if_neg (by omega)]
  split_ifs <;> rfl

/-! ### The De-stuffer alone -/

/-- After a run of five the opposite bit is removed. -/
theorem destuffAll_cons_of_five {s : State} (h : s.Destuffing) (hrun : s.runLength = 5) (rest : List Bit) :
    destuffAll s ((!s.lastBit) :: rest) = destuffAll (trackRestart (!s.lastBit) s) rest := by
  rw [destuffAll, decodeDestuff_destuffKey, destuffCase_eq_dsStuffBit h hrun (by simp)]

/-- A run of at most four forwards the next bit and counts it. -/
theorem destuffAll_cons_of_short {s : State} (h : s.Destuffing) (hrun : s.runLength.toNat ≤ 4) (b : Bit)
    (rest : List Bit) : destuffAll s (b :: rest) = (destuffAll (trackRaw b s) rest).map (b :: ·) := by
  rw [destuffAll, decodeDestuff_destuffKey, trackRaw]
  by_cases hb : b = s.lastBit
  · rw [destuffCase_eq_dsSame h (runLength_ne_five hrun) hb, if_pos hb]
  · rw [destuffCase_eq_dsChange h (runLength_ne_five hrun) hb, if_neg hb]

/-! ### The two in step -/

/-- From the tracker of `s` the De-stuffer forwards exactly `L` of what the transmitter sends for `L` from the same run. -/
def State.InvertsStuffing (s : State) (L : List Bit) : Prop :=
  destuffAll s (stuffFrom s.runLength.toNat s.lastBit L) = some L

/-- After a run of five the inserted bit is removed, and what is left is the claim from a run of one. -/
theorem invertsStuffing_of_five {s : State} (h : s.Destuffing) (hrun : s.runLength = 5) {L : List Bit}
    (hrestart : (trackRestart (!s.lastBit) s).InvertsStuffing L) : s.InvertsStuffing L := by
  have hfive : s.runLength.toNat = 5 := by rw [hrun]; rfl
  rw [State.InvertsStuffing, hfive, stuffFrom_five, destuffAll_cons_of_five h hrun]
  exact hrestart

/-- In a run of at most four the next bit is sent and forwarded as it is. -/
theorem invertsStuffing_cons_of_short {s : State} (h : s.Destuffing) (hrun : s.runLength.toNat ≤ 4) {b : Bit}
    {rest : List Bit} (hrest : (trackRaw b s).InvertsStuffing rest) : s.InvertsStuffing (b :: rest) := by
  rw [State.InvertsStuffing, trackRaw_lastBit, trackRaw_runLength_toNat (by omega)] at hrest
  rw [State.InvertsStuffing, stuffFrom_cons_of_short hrun, destuffAll_cons_of_short h hrun, hrest, Option.map_some]

/-- A bit string that is inverted from every run of at most four is inverted from every run of at most five. -/
theorem invertsStuffing_of_le_five {L : List Bit}
    (hshort : ∀ t : State, t.Destuffing → t.runLength.toNat ≤ 4 → t.InvertsStuffing L) {s : State} (h : s.Destuffing)
    (hrun : s.runLength.toNat ≤ 5) : s.InvertsStuffing L := by
  by_cases hfive : s.runLength = 5
  · exact invertsStuffing_of_five h hfive (hshort _ (h.trackRestart _) (by simp))
  · have hne : s.runLength.toNat ≠ 5 := fun h5 => hfive (BitVec.eq_of_toNat_eq h5)
    exact hshort s h (by omega)

theorem invertsStuffing_of_short (L : List Bit) {s : State} (h : s.Destuffing) (hrun : s.runLength.toNat ≤ 4) :
    s.InvertsStuffing L := by
  induction L generalizing s with
  | nil => rw [State.InvertsStuffing, stuffFrom_nil_of_short hrun, destuffAll]
  | cons b rest ih =>
    have hnext : (trackRaw b s).runLength.toNat ≤ 5 := by
      rw [trackRaw_runLength_toNat (by omega)]
      split_ifs <;> omega
    exact invertsStuffing_cons_of_short h hrun
      (invertsStuffing_of_le_five (fun t ht htrun => ih ht htrun) (h.trackRaw b) hnext)

/-- Settles O57, by induction on the logical bits: what follows the first bit is `stuffFrom` at the run of one that the
tracker stands at. -/
theorem destuffingInvertsStuffing : Obligations.DestuffingInvertsStuffing := by
  unfold Obligations.DestuffingInvertsStuffing
  intro L s hstate hactive hrun hlast
  have hone : s.runLength.toNat = 1 := by rw [hrun]; rfl
  have hinverts := invertsStuffing_of_short L ⟨hstate, hactive⟩ (by omega : s.runLength.toNat ≤ 4)
  rw [State.InvertsStuffing, hone, hlast] at hinverts
  exact hinverts

end Sys2Proof.Machine

namespace Sys2Proof.Machine

/-! ## The handlers of the Frame Field State Machine (R182 to R199)

For each handler row: the positions that select it, and its effect as one equation of whole states. The statements about
the handlers put the two together; the proofs about the transition table and about whole frames use them one by one. -/

/-! ### The positions of each row (R32, R180) -/

theorem selects_idle : Selects 0 0 0 .idle := fun index b n _ hhi =>
  (decodeHandler_idle index b n).trans (if_pos (Nat.le_zero.1 hhi))

theorem selects_identifierId : Selects 1 0 10 .identifierId := fun index b n _ hhi =>
  (decodeHandler_identifier index b n).trans (if_pos hhi)

theorem selects_identifierRtr : Selects 1 11 11 .identifierRtr := fun index b n hlo hhi =>
  (decodeHandler_identifier index b n).trans (by rw [if_neg (by omega), if_pos (by omega)])

theorem selects_identifierIde : Selects 1 12 12 .identifierIde := fun index b n hlo hhi =>
  (decodeHandler_identifier index b n).trans (by rw [if_neg (by omega), if_neg (by omega), if_pos (by omega)])

theorem selects_extIdentifierId : Selects 2 0 17 .extIdentifierId := fun index b n _ hhi =>
  (decodeHandler_extIdentifier index b n).trans (if_pos hhi)

theorem selects_extIdentifierRtr : Selects 2 18 18 .extIdentifierRtr := fun index b n hlo hhi =>
  (decodeHandler_extIdentifier index b n).trans (by rw [if_neg (by omega), if_pos (by omega)])

theorem selects_extIdentifierR1 : Selects 2 19 19 .extIdentifierR1 := fun index b n hlo hhi =>
  (decodeHandler_extIdentifier index b n).trans (by rw [if_neg (by omega), if_neg (by omega), if_pos (by omega)])

theorem selects_controlR0 : Selects 3 0 0 .controlR0 := fun index b n _ hhi =>
  (decodeHandler_control index b n).trans (if_pos (Nat.le_zero.1 hhi))

theorem selects_controlDlc : Selects 3 1 3 .controlDlc := fun index b n hlo hhi =>
  (decodeHandler_control index b n).trans (by rw [if_neg (by omega), if_pos hhi])

theorem selects_controlDlcLast : Selects 3 4 4 .controlDlcLast := fun index b n hlo hhi =>
  (decodeHandler_control index b n).trans (by rw [if_neg (by omega), if_neg (by omega), if_pos (by omega)])

theorem selects_data : Selects 4 0 63 .data := fun index b n _ hhi =>
  (decodeHandler_data index b n).trans (if_pos hhi)

theorem selects_crc15Bits : Selects 5 0 13 .crc15Bits := fun index b n _ hhi =>
  (decodeHandler_crc15 index b n).trans (if_pos hhi)

theorem selects_crc15Last : Selects 5 14 14 .crc15Last := fun index b n hlo hhi =>
  (decodeHandler_crc15 index b n).trans (by rw [if_neg (by omega), if_pos (by omega)])

theorem selects_crcDelimiter : Selects 6 0 0 .crcDelimiter := fun index b n _ hhi =>
  (decodeHandler_crcDelimiter index b n).trans (if_pos (Nat.le_zero.1 hhi))

theorem selects_ackSlot : Selects 7 0 0 .ackSlot := fun index b n _ hhi =>
  (decodeHandler_ack index b n).trans (if_pos (Nat.le_zero.1 hhi))

theorem selects_ackDelimiter : Selects 7 1 1 .ackDelimiter := fun index b n hlo hhi =>
  (decodeHandler_ack index b n).trans (by rw [if_neg (by omega), if_pos (by omega)])

theorem selects_endOfFrame : Selects 8 0 6 .endOfFrame := fun index b n _ hhi =>
  (decodeHandler_endOfFrame index b n).trans (if_pos hhi)

theorem selects_intermission : Selects 9 0 2 .intermission := fun index b n _ hhi =>
  (decodeHandler_intermission index b n).trans (if_pos hhi)

/-! ### The effect of each row -/

/-- Where the field that holds the bit at `n` begins: a field's first bit marks its start (R201). -/
def State.startAt (s : State) (n : Sample) : Sample := if s.fieldBitIndex = 0 then n else s.fieldStartSample

/-- Where the data byte that holds the bit at `n` begins: a byte's first bit marks its start (R192). -/
def State.byteStartAt (s : State) (n : Sample) : Sample :=
  if bitInByte s.fieldBitIndex = 0 then n else s.fieldStartSample

/-- The current data byte with one more bit (R192). -/
def State.byteWith (s : State) (b : Bit) : BitVec 8 := shiftIn (s.data.get (byteIndex s.fieldBitIndex)) b

section
variable (b : Bit) (n : Sample) (s : State)

theorem exec_idle_recessive : exec (.idle true n) s = .next s := rfl

theorem exec_idle_dominant :
    exec (.idle false n) s = .next
      { s with
        state := .identifier, fieldBitIndex := 0, destuffActive := true, lastBit := false, runLength := 1
        isData := true, isExtended := false, ackNacked := false, identifier := 0, dlc := 0, dataLen := 0
        crc := 0, crcSnapshot := 0, crcRx := 0, stuffBitCount := 0, sofSample := n, fieldStartSample := 0
        data := .zero, mrkOut := s.markersWith .frameStart false n } := rfl

theorem exec_identifierId :
    exec (.identifierId b n) s = .next
      { s with
        fieldStartSample := s.startAt n
        identifier := shiftIn s.identifier b, fieldBitIndex := s.fieldBitIndex + 1
        mrkOut := s.markersWith .normal b n } := rfl

theorem exec_identifierRtr :
    exec (.identifierRtr b n) s = .next
      { s with
        isData := !b, fieldBitIndex := 12
        mrkOut := s.markersWith (if b then .recessive else .dominant) b n } := rfl

theorem exec_identifierIde_recessive :
    exec (.identifierIde true n) s = .next
      { s with
        isExtended := true, state := .extIdentifier, fieldBitIndex := 0
        mrkOut := s.markersWith .recessive true n } := rfl

theorem exec_identifierIde_dominant :
    exec (.identifierIde false n) s = .next
      { s with
        state := .control, fieldBitIndex := 0, mrkOut := s.markersWith .dominant false n
        recOut := s.recOut ++ [⟨.standardIdentifier, (s.identifier.extractLsb' 0 11).setWidth 64,
          bitPayload s.isData, s.fieldStartSample, n⟩] } := rfl

theorem exec_extIdentifierId :
    exec (.extIdentifierId b n) s = .next
      { s with
        identifier := shiftIn s.identifier b, fieldBitIndex := s.fieldBitIndex + 1
        mrkOut := s.markersWith .normal b n } := rfl

theorem exec_extIdentifierRtr :
    exec (.extIdentifierRtr b n) s = .next
      { s with
        isData := !b, fieldBitIndex := 19
        mrkOut := s.markersWith (if b then .recessive else .dominant) b n } := rfl

theorem exec_extIdentifierR1_recessive :
    exec (.extIdentifierR1 true n) s = .next
      { s with
        state := .decoderError, fieldBitIndex := 0, destuffActive := false, errStartSample := n, errCause := .formR1
        mrkOut := s.markersWith .error true n } := rfl

theorem exec_extIdentifierR1_dominant :
    exec (.extIdentifierR1 false n) s = .next
      { s with
        state := .control, fieldBitIndex := 0, mrkOut := s.markersWith .dominant false n
        recOut := s.recOut ++ [⟨.extendedIdentifier, s.identifier.setWidth 64, bitPayload s.isData,
          s.fieldStartSample, n⟩] } := rfl

theorem exec_controlR0_dominant :
    exec (.controlR0 false n) s = .next
      { s with fieldStartSample := n, fieldBitIndex := 1, mrkOut := s.markersWith .dominant false n } := rfl

theorem exec_controlR0_recessive :
    exec (.controlR0 true n) s = .next
      { s with
        fieldStartSample := n, fieldBitIndex := 1, errCause := .formR0, mrkOut := s.markersWith .error true n
        recOut := s.recOut ++ [⟨.decodeError, 0, 0, n, n⟩] } := rfl

theorem exec_controlDlc :
    exec (.controlDlc b n) s = .next
      { s with
        dlc := shiftIn s.dlc b, fieldBitIndex := s.fieldBitIndex + 1, mrkOut := s.markersWith .normal b n } := rfl

theorem exec_controlDlcLast :
    exec (.controlDlcLast b n) s = .next
      { s with
        dlc := shiftIn s.dlc b, dataLen := clampLength (shiftIn s.dlc b), crcSnapshot := s.crc, fieldBitIndex := 0
        state := if clampLength (shiftIn s.dlc b) = 0 ∨ s.isData = false then .crc15 else .data
        mrkOut := s.markersWith .normal b n
        recOut := s.recOut ++ [⟨.control, (shiftIn s.dlc b).setWidth 64, 0, s.fieldStartSample, n⟩] } := rfl

/-- A position of DATA: an index below `8 × dataLen`, and no more than eight bytes declared (R32, R42). -/
structure State.InData (s : State) : Prop where
  index : s.fieldBitIndex.toNat < 8 * s.dataLen.toNat
  length : s.dataLen.toNat ≤ 8

/-- DATA within a byte. -/
theorem exec_data_within (hpos : s.InData) (hbit : bitInByte s.fieldBitIndex < 7) :
    exec (.data b n) s = .next
      { s with
        fieldStartSample := s.byteStartAt n, data := s.data.set (byteIndex s.fieldBitIndex) (s.byteWith b)
        fieldBitIndex := s.fieldBitIndex + 1, mrkOut := s.markersWith .normal b n } := by
  obtain ⟨hindex, hlen⟩ := hpos
  exact (if_pos ⟨hindex, by omega⟩).trans (if_pos hbit)

/-- DATA at the last bit of a byte that is not the last. -/
theorem exec_data_byte (hpos : s.InData) (hbit : bitInByte s.fieldBitIndex = 7)
    (hmore : (byteIndex s.fieldBitIndex).val + 1 ≠ s.dataLen.toNat) :
    exec (.data b n) s = .next
      { s with
        fieldStartSample := s.byteStartAt n, data := s.data.set (byteIndex s.fieldBitIndex) (s.byteWith b)
        fieldBitIndex := s.fieldBitIndex + 1, mrkOut := s.markersWith .normal b n
        recOut := s.recOut ++ [⟨.dataByte, (s.byteWith b).setWidth 64,
          BitVec.ofNat 64 (byteIndex s.fieldBitIndex).val, s.byteStartAt n, n⟩] } := by
  obtain ⟨hindex, hlen⟩ := hpos
  exact (if_pos ⟨hindex, by omega⟩).trans ((if_neg (by omega)).trans (if_neg hmore))

/-- DATA at the last bit of the last byte. -/
theorem exec_data_last (hpos : s.InData) (hbit : bitInByte s.fieldBitIndex = 7)
    (hlast : (byteIndex s.fieldBitIndex).val + 1 = s.dataLen.toNat) :
    exec (.data b n) s = .next
      { s with
        fieldStartSample := s.byteStartAt n, data := s.data.set (byteIndex s.fieldBitIndex) (s.byteWith b)
        crcSnapshot := s.crc, state := .crc15, fieldBitIndex := 0, mrkOut := s.markersWith .normal b n
        recOut := s.recOut ++ [⟨.dataByte, (s.byteWith b).setWidth 64,
          BitVec.ofNat 64 (byteIndex s.fieldBitIndex).val, s.byteStartAt n, n⟩] } := by
  obtain ⟨hindex, hlen⟩ := hpos
  exact (if_pos ⟨hindex, by omega⟩).trans ((if_neg (by omega)).trans (if_pos hlast))

theorem exec_crc15Bits :
    exec (.crc15Bits b n) s = .next
      { s with
        fieldStartSample := s.startAt n
        crcRx := shiftIn s.crcRx b, fieldBitIndex := s.fieldBitIndex + 1, mrkOut := s.markersWith .normal b n } := rfl

theorem exec_crc15Last_of_zero (hcrc : s.crc = 0) :
    exec (.crc15Last b n) s = .next
      { s with
        crcRx := shiftIn s.crcRx b, state := .crcDelimiter, fieldBitIndex := 0, mrkOut := s.markersWith .normal b n
        recOut := s.recOut ++ [⟨.crc, (shiftIn s.crcRx b).setWidth 64, s.crc.setWidth 64, s.fieldStartSample, n⟩] } :=
  if_neg (not_not.2 hcrc)

theorem exec_crc15Last_of_ne_zero (hcrc : s.crc ≠ 0) :
    exec (.crc15Last b n) s = .next
      { s with
        crcRx := shiftIn s.crcRx b, state := .decoderError, fieldBitIndex := 0, destuffActive := false
        errStartSample := n, errCause := .crcMismatch, mrkOut := s.markersWith .error b n
        recOut := s.recOut ++ [⟨.crc, (shiftIn s.crcRx b).setWidth 64, s.crc.setWidth 64, s.fieldStartSample, n⟩] } :=
  if_pos hcrc

theorem exec_crcDelimiter_recessive :
    exec (.crcDelimiter true n) s = .next
      { s with
        destuffActive := false, state := .ack, fieldBitIndex := 0, mrkOut := s.markersWith .recessive true n } := rfl

theorem exec_crcDelimiter_dominant :
    exec (.crcDelimiter false n) s = .next
      { s with
        destuffActive := false, state := .decoderError, fieldBitIndex := 0, errStartSample := n
        errCause := .formCrcDelimiter, mrkOut := s.markersWith .error false n } := rfl

theorem exec_ackSlot :
    exec (.ackSlot b n) s = .next
      { s with
        fieldStartSample := n, ackNacked := b, fieldBitIndex := 1
        mrkOut := s.markersWith (if b then .recessive else .dominant) b n } := rfl

theorem exec_ackDelimiter_recessive :
    exec (.ackDelimiter true n) s = .next
      { s with
        state := .endOfFrame, fieldBitIndex := 0, mrkOut := s.markersWith .recessive true n
        recOut := s.recOut ++ [⟨.ack, bitPayload s.ackNacked, 0, s.fieldStartSample, n⟩] } := rfl

theorem exec_ackDelimiter_dominant :
    exec (.ackDelimiter false n) s = .next
      { s with
        runLength := 1, lastBit := false, state := .decoderError, fieldBitIndex := 0, destuffActive := false
        errStartSample := n, errCause := .formAckDelimiter, mrkOut := s.markersWith .error false n } := rfl

theorem exec_endOfFrame_stay (hindex : s.fieldBitIndex.toNat < 6) :
    exec (.endOfFrame true n) s = .next
      { s with
        fieldStartSample := s.startAt n, fieldBitIndex := s.fieldBitIndex + 1
        mrkOut := s.markersWith .recessive true n } := if_pos hindex

theorem exec_endOfFrame_last (hindex : s.fieldBitIndex.toNat = 6) :
    exec (.endOfFrame true n) s = .next
      { s with
        fieldStartSample := s.startAt n, state := .intermission, fieldBitIndex := 0
        mrkOut := s.markersWith .recessive true n, recOut := s.recOut ++ [⟨.eof, 0, 0, s.startAt n, n⟩] } :=
  if_neg (Nat.not_lt.2 hindex.ge)

theorem exec_endOfFrame_dominant :
    exec (.endOfFrame false n) s = .next
      { s with
        fieldStartSample := s.startAt n, runLength := 1, lastBit := false, state := .decoderError, fieldBitIndex := 0
        destuffActive := false, errStartSample := n, errCause := .formEof
        mrkOut := s.markersWith .error false n } := rfl

theorem exec_intermission_stay (hindex : s.fieldBitIndex.toNat < 2) :
    exec (.intermission true n) s = .next
      { s with
        fieldStartSample := s.startAt n, fieldBitIndex := s.fieldBitIndex + 1
        mrkOut := s.markersWith .recessive true n } := if_pos hindex

theorem exec_intermission_last (hindex : s.fieldBitIndex.toNat = 2) :
    exec (.intermission true n) s = .next
      { s with
        fieldStartSample := s.startAt n, state := .idle, fieldBitIndex := 0, mrkOut := s.markersWith .recessive true n
        recOut := s.recOut ++ [⟨.intermission, n - s.sofSample, s.stuffBitCount, s.startAt n, n⟩] } :=
  if_neg (Nat.not_lt.2 hindex.ge)

theorem exec_intermission_dominant :
    exec (.intermission false n) s = .next
      { s with
        fieldStartSample := s.startAt n, runLength := 1, lastBit := false, state := .decoderError, fieldBitIndex := 0
        destuffActive := false, errStartSample := n, errCause := .formIntermission
        mrkOut := s.markersWith .error false n } := rfl

end

/-- A bit forwarded at a position of a row runs the row's handler, the CRC engine fed first (R180). -/
theorem forward_eq_exec {b : Bit} {n : Sample} {s : State} {st : FieldState} {lo hi : Nat} {i : Bit → Sample → Instr}
    (hst : s.state = st) (hsel : Selects st.code lo hi i) (hlo : lo ≤ s.fieldBitIndex.toNat) (hhi : s.fieldBitIndex.toNat ≤ hi) :
    forward b n s = exec (i b n) (feedForward b s) := by
  refine runHandler_of_decode ?_
  rw [feedForward_state, feedForward_fieldBitIndex, hst]
  exact hsel _ _ _ hlo hhi

/-! ### The statements about the handlers -/

/-- The 64-bit payload of a narrower register holds its value (R96). -/
theorem setWidth_eq_ofNat {w : Nat} (v : BitVec w) : v.setWidth 64 = BitVec.ofNat 64 v.toNat :=
  (BitVec.ofNat_toNat 64 v).symm

/-- The base identifier of a record is the low eleven bits of the register (R185). -/
theorem extractLsb'_eq_ofNat (v : BitVec 29) :
    (v.extractLsb' 0 11).setWidth 64 = BitVec.ofNat 64 (v.toNat % 2 ^ 11) := by
  rw [setWidth_eq_ofNat, BitVec.extractLsb'_toNat, Nat.shiftRight_zero]

/-- Settles O24. -/
theorem idleStartsAFrameAtADominantBit : Obligations.IdleStartsAFrameAtADominantBit := by
  unfold Obligations.IdleStartsAFrameAtADominantBit
  exact ⟨selects_idle, fun n s => ⟨exec_idle_recessive n s, exec_idle_dominant n s⟩⟩

/-- Settles O25. -/
theorem identifierBitsAreShiftedIn : Obligations.IdentifierBitsAreShiftedIn := by
  unfold Obligations.IdentifierBitsAreShiftedIn
  exact ⟨selects_identifierId, selects_extIdentifierId, fun b n s =>
    ⟨shiftIn s.identifier b, shiftIn_toNat (by decide) _ _, exec_identifierId b n s, exec_extIdentifierId b n s⟩⟩

/-- Settles O26. -/
theorem rtrBitsSetTheFrameKind : Obligations.RtrBitsSetTheFrameKind := by
  unfold Obligations.RtrBitsSetTheFrameKind
  exact ⟨selects_identifierRtr, selects_extIdentifierRtr, fun b n s =>
    ⟨exec_identifierRtr b n s, exec_extIdentifierRtr b n s⟩⟩

/-- Settles O27. -/
theorem ideSelectsTheFormat : Obligations.IdeSelectsTheFormat := by
  unfold Obligations.IdeSelectsTheFormat
  refine ⟨selects_identifierIde, fun n s => ⟨exec_identifierIde_recessive n s, ?_⟩⟩
  rw [exec_identifierIde_dominant, extractLsb'_eq_ofNat, bitPayload_eq_flagPayload]

/-- Settles O28. -/
theorem r1MustBeDominant : Obligations.R1MustBeDominant := by
  unfold Obligations.R1MustBeDominant
  refine ⟨selects_extIdentifierR1, fun n s => ⟨exec_extIdentifierR1_recessive n s, ?_⟩⟩
  rw [exec_extIdentifierR1_dominant, setWidth_eq_ofNat, bitPayload_eq_flagPayload]

/-- Settles O29. -/
theorem recessiveR0IsFlaggedAndDecodingGoesOn : Obligations.RecessiveR0IsFlaggedAndDecodingGoesOn := by
  unfold Obligations.RecessiveR0IsFlaggedAndDecodingGoesOn
  exact ⟨selects_controlR0, fun n s => ⟨exec_controlR0_dominant n s, exec_controlR0_recessive n s⟩⟩

/-- Settles O30. -/
theorem dlcBitIsShiftedIn : Obligations.DlcBitIsShiftedIn := by
  unfold Obligations.DlcBitIsShiftedIn
  exact ⟨selects_controlDlc, fun b n s => ⟨_, exec_controlDlc b n s, shiftIn_toNat (by decide) _ _, rfl⟩⟩

/-- Settles O31. -/
theorem lastDlcBitCompletesControl : Obligations.LastDlcBitCompletesControl := by
  unfold Obligations.LastDlcBitCompletesControl
  refine ⟨selects_controlDlcLast, fun b n s =>
    ⟨_, exec_controlDlcLast b n s, shiftIn_toNat (by decide) _ _, clampLength_toNat _, ?_⟩⟩
  have hzero : (clampLength (shiftIn s.dlc b)).toNat = 0 ↔ clampLength (shiftIn s.dlc b) = 0 :=
    BitVec.toNat_inj (y := 0)
  simp only [hzero, setWidth_eq_ofNat]

/-- Settles O32: within a byte, at the end of a byte, and at the end of the last one. -/
theorem dataBitIsShiftedIntoItsByte : Obligations.DataBitIsShiftedIntoItsByte := by
  unfold Obligations.DataBitIsShiftedIntoItsByte
  refine ⟨selects_data, fun b n s k hlen hindex hk => ?_⟩
  have hpos : s.InData := ⟨hindex, hlen⟩
  obtain rfl : k = byteIndex s.fieldBitIndex := Fin.ext (by rw [hk]; exact (Nat.mod_eq_of_lt (by omega)).symm)
  have hsame : (s.data.set (byteIndex s.fieldBitIndex) (s.byteWith b)).get (byteIndex s.fieldBitIndex) = s.byteWith b :=
    DataBuffer.get_set_same _ _ _
  have hvalue : ((s.data.set (byteIndex s.fieldBitIndex) (s.byteWith b)).get (byteIndex s.fieldBitIndex)).toNat =
      (2 * (s.data.get (byteIndex s.fieldBitIndex)).toNat + b.toNat) % 256 := by
    rw [hsame]; exact shiftIn_toNat (by decide) _ _
  have hother (j : Fin 8) (hj : j ≠ byteIndex s.fieldBitIndex) :
      (s.data.set (byteIndex s.fieldBitIndex) (s.byteWith b)).get j = s.data.get j :=
    DataBuffer.get_set_other _ _ hj
  by_cases hbit : s.fieldBitIndex.toNat % 8 < 7
  · refine ⟨_, exec_data_within b n s hpos hbit, hvalue, hother, rfl, fun _ => rfl, by omega, ?_, rfl⟩
    rw [if_neg (by omega)]
    exact ⟨rfl, rfl, rfl⟩
  · have hend : s.fieldBitIndex.toNat % 8 = 7 := by omega
    by_cases hlast : (byteIndex s.fieldBitIndex).val + 1 = s.dataLen.toNat
    · refine ⟨_, exec_data_last b n s hpos hend hlast, hvalue, hother, rfl, by omega, fun _ => ?_, ?_, rfl⟩
      · rw [hsame, setWidth_eq_ofNat]
      · rw [if_pos (by omega)]
        exact ⟨rfl, rfl, rfl⟩
    · refine ⟨_, exec_data_byte b n s hpos hend hlast, hvalue, hother, rfl, by omega, fun _ => ?_, ?_, rfl⟩
      · rw [hsame, setWidth_eq_ofNat]
      · rw [if_neg (by omega)]
        exact ⟨rfl, rfl, rfl⟩

/-- Settles O33. -/
theorem crcBitIsShiftedIn : Obligations.CrcBitIsShiftedIn := by
  unfold Obligations.CrcBitIsShiftedIn
  exact ⟨selects_crc15Bits, fun b n s => ⟨_, exec_crc15Bits b n s, shiftIn_toNat (by decide) _ _, rfl⟩⟩

/-- Settles O34: the residue is zero or it is not. -/
theorem fifteenthCrcBitJudgesTheResidue : Obligations.FifteenthCrcBitJudgesTheResidue := by
  unfold Obligations.FifteenthCrcBitJudgesTheResidue
  refine ⟨selects_crc15Last, fun b n s => ?_⟩
  by_cases hcrc : s.crc = 0
  · refine ⟨_, exec_crc15Last_of_zero b n s hcrc, shiftIn_toNat (by decide) _ _, ?_, fun _ => rfl,
      fun h => absurd hcrc h⟩
    simp only [setWidth_eq_ofNat]
  · refine ⟨_, exec_crc15Last_of_ne_zero b n s hcrc, shiftIn_toNat (by decide) _ _, ?_, fun h => absurd h hcrc,
      fun _ => rfl⟩
    simp only [setWidth_eq_ofNat]

/-- Settles O35. -/
theorem crcDelimiterMustBeRecessive : Obligations.CrcDelimiterMustBeRecessive := by
  unfold Obligations.CrcDelimiterMustBeRecessive
  exact ⟨selects_crcDelimiter, fun n s => ⟨exec_crcDelimiter_recessive n s, exec_crcDelimiter_dominant n s⟩⟩

/-- Settles O36. -/
theorem ackSlotIsLatched : Obligations.AckSlotIsLatched := by
  unfold Obligations.AckSlotIsLatched
  exact ⟨selects_ackSlot, exec_ackSlot⟩

/-- Settles O37. -/
theorem ackDelimiterMustBeRecessive : Obligations.AckDelimiterMustBeRecessive := by
  unfold Obligations.AckDelimiterMustBeRecessive
  refine ⟨selects_ackDelimiter, fun n s => ⟨?_, exec_ackDelimiter_dominant n s⟩⟩
  rw [exec_ackDelimiter_recessive, bitPayload_eq_flagPayload]

/-- Settles O38. -/
theorem endOfFrameMustBeRecessive : Obligations.EndOfFrameMustBeRecessive := by
  unfold Obligations.EndOfFrameMustBeRecessive
  refine ⟨selects_endOfFrame, ?_⟩
  rintro n s _ rfl
  exact ⟨exec_endOfFrame_stay n s, exec_endOfFrame_last n s, exec_endOfFrame_dominant n s⟩

/-- Settles O39: the duration is the difference of two sample numbers modulo 2^64. -/
theorem intermissionMustBeRecessive : Obligations.IntermissionMustBeRecessive := by
  unfold Obligations.IntermissionMustBeRecessive
  refine ⟨selects_intermission, ?_⟩
  rintro n s _ rfl
  refine ⟨exec_intermission_stay n s, fun hindex => ⟨n - s.sofSample, ?_, exec_intermission_last n s hindex⟩,
    exec_intermission_dominant n s⟩
  rw [BitVec.toNat_sub, Nat.sub_add_comm (Nat.le_of_lt s.sofSample.isLt)]

end Sys2Proof.Machine

namespace Sys2Proof.Machine

/-! ## The transition table (R203)

For each handler row: the row or rows of the table that describe what it does. The handler runs on a state that differs
from the one before the BitEvent in the tracker and the CRC only, which no row reads (`State.SamePlace`). -/

section
variable {b : Bit} {n : Sample} {s u : State}

/-- What a row of the table reads of the state before a consumed bit is the same in `u` as in `s`. -/
structure State.SamePlace (s u : State) : Prop where
  state : u.state = s.state
  fieldBitIndex : u.fieldBitIndex = s.fieldBitIndex
  dataLen : u.dataLen = s.dataLen
  errCause : u.errCause = s.errCause
  recOut : u.recOut = s.recOut

/-- The meaning answers a next state, and some row for consumed bits describes the move there from `s`. -/
def MovesByRow (b : Bit) (s : State) (o : Result) : Prop :=
  ∃ t, o = .next t ∧ ∃ r ∈ handlerRows, r.Describes b s t

/-! ### The rows of each handler -/

theorem movesByRow_idle (hu : s.SamePlace u) (hst : s.state = .idle) (hi : s.fieldBitIndex.toNat ≤ 0) :
    MovesByRow b s (exec (.idle b n) u) := by
  cases b with
  | true =>
    exact ⟨_, exec_idle_recessive n u, { source := .idle, lo := 0, hi := 0, bit := some true, target := .idle },
      by simp [handlerRows], hst.symm, Nat.zero_le _, hi, by simp, trivial, (hu.state.trans hst).symm, hu.errCause,
      hu.recOut⟩
  | false =>
    exact ⟨_, exec_idle_dominant n u, { source := .idle, lo := 0, hi := 0, bit := some false, target := .identifier },
      by simp [handlerRows], hst.symm, Nat.zero_le _, hi, by simp, trivial, rfl, hu.errCause, hu.recOut⟩

theorem movesByRow_identifierId (hu : s.SamePlace u) (hst : s.state = .identifier) (hi : s.fieldBitIndex.toNat ≤ 10) :
    MovesByRow b s (exec (.identifierId b n) u) :=
  ⟨_, exec_identifierId b n u, { source := .identifier, lo := 0, hi := 11, bit := none, target := .identifier },
    by simp [handlerRows], hst.symm, Nat.zero_le _, hi.trans (by decide), nofun, trivial, (hu.state.trans hst).symm,
    hu.errCause, hu.recOut⟩

theorem movesByRow_identifierRtr (hu : s.SamePlace u) (hst : s.state = .identifier) (hi : s.fieldBitIndex.toNat = 11) :
    MovesByRow b s (exec (.identifierRtr b n) u) :=
  ⟨_, exec_identifierRtr b n u, { source := .identifier, lo := 0, hi := 11, bit := none, target := .identifier },
    by simp [handlerRows], hst.symm, Nat.zero_le _, hi.le, nofun, trivial, (hu.state.trans hst).symm, hu.errCause,
    hu.recOut⟩

theorem movesByRow_identifierIde (hu : s.SamePlace u) (hst : s.state = .identifier) (hi : s.fieldBitIndex.toNat = 12) :
    MovesByRow b s (exec (.identifierIde b n) u) := by
  cases b with
  | true =>
    exact ⟨_, exec_identifierIde_recessive n u,
      { source := .identifier, lo := 12, hi := 12, bit := some true, target := .extIdentifier },
      by simp [handlerRows], hst.symm, hi.ge, hi.le, by simp, trivial, rfl, hu.errCause, hu.recOut⟩
  | false =>
    exact ⟨_, exec_identifierIde_dominant n u,
      { source := .identifier, lo := 12, hi := 12, bit := some false, target := .control
        record := some .standardIdentifier },
      by simp [handlerRows], hst.symm, hi.ge, hi.le, by simp, trivial, rfl, hu.errCause,
      _, congrArg (· ++ _) hu.recOut, rfl⟩

theorem movesByRow_extIdentifierId (hu : s.SamePlace u) (hst : s.state = .extIdentifier)
    (hi : s.fieldBitIndex.toNat ≤ 17) : MovesByRow b s (exec (.extIdentifierId b n) u) :=
  ⟨_, exec_extIdentifierId b n u,
    { source := .extIdentifier, lo := 0, hi := 18, bit := none, target := .extIdentifier },
    by simp [handlerRows], hst.symm, Nat.zero_le _, hi.trans (by decide), nofun, trivial, (hu.state.trans hst).symm,
    hu.errCause, hu.recOut⟩

theorem movesByRow_extIdentifierRtr (hu : s.SamePlace u) (hst : s.state = .extIdentifier)
    (hi : s.fieldBitIndex.toNat = 18) : MovesByRow b s (exec (.extIdentifierRtr b n) u) :=
  ⟨_, exec_extIdentifierRtr b n u,
    { source := .extIdentifier, lo := 0, hi := 18, bit := none, target := .extIdentifier },
    by simp [handlerRows], hst.symm, Nat.zero_le _, hi.le, nofun, trivial, (hu.state.trans hst).symm, hu.errCause,
    hu.recOut⟩

theorem movesByRow_extIdentifierR1 (hu : s.SamePlace u) (hst : s.state = .extIdentifier)
    (hi : s.fieldBitIndex.toNat = 19) : MovesByRow b s (exec (.extIdentifierR1 b n) u) := by
  cases b with
  | true =>
    exact ⟨_, exec_extIdentifierR1_recessive n u,
      { source := .extIdentifier, lo := 19, hi := 19, bit := some true, target := .decoderError
        cause := some .formR1 },
      by simp [handlerRows], hst.symm, hi.ge, hi.le, by simp, trivial, rfl, rfl, hu.recOut⟩
  | false =>
    exact ⟨_, exec_extIdentifierR1_dominant n u,
      { source := .extIdentifier, lo := 19, hi := 19, bit := some false, target := .control
        record := some .extendedIdentifier },
      by simp [handlerRows], hst.symm, hi.ge, hi.le, by simp, trivial, rfl, hu.errCause,
      _, congrArg (· ++ _) hu.recOut, rfl⟩

theorem movesByRow_controlR0 (hu : s.SamePlace u) (hst : s.state = .control) (hi : s.fieldBitIndex.toNat ≤ 0) :
    MovesByRow b s (exec (.controlR0 b n) u) := by
  cases b with
  | true =>
    exact ⟨_, exec_controlR0_recessive n u,
      { source := .control, lo := 0, hi := 0, bit := some true, target := .control, record := some .decodeError
        cause := some .formR0 },
      by simp [handlerRows], hst.symm, Nat.zero_le _, hi, by simp, trivial, (hu.state.trans hst).symm, rfl,
      _, congrArg (· ++ _) hu.recOut, rfl⟩
  | false =>
    exact ⟨_, exec_controlR0_dominant n u,
      { source := .control, lo := 0, hi := 0, bit := some false, target := .control },
      by simp [handlerRows], hst.symm, Nat.zero_le _, hi, by simp, trivial, (hu.state.trans hst).symm, hu.errCause,
      hu.recOut⟩

theorem movesByRow_controlDlc (hu : s.SamePlace u) (hst : s.state = .control) (hlo : 1 ≤ s.fieldBitIndex.toNat)
    (hhi : s.fieldBitIndex.toNat ≤ 3) : MovesByRow b s (exec (.controlDlc b n) u) :=
  ⟨_, exec_controlDlc b n u, { source := .control, lo := 1, hi := 3, bit := none, target := .control },
    by simp [handlerRows], hst.symm, hlo, hhi, nofun, trivial, (hu.state.trans hst).symm, hu.errCause, hu.recOut⟩

/-- The two rows of the last DLC bit exclude each other by whether there is data to come. -/
theorem movesByRow_controlDlcLast (hu : s.SamePlace u) (hst : s.state = .control) (hi : s.fieldBitIndex.toNat = 4) :
    MovesByRow b s (exec (.controlDlcLast b n) u) := by
  have hnone : (clampLength (shiftIn u.dlc b) = 0 ∨ u.isData = false) ↔
      ¬ (0 < (clampLength (shiftIn u.dlc b)).toNat ∧ u.isData = true) := by
    rw [not_and_or, Nat.not_lt, Nat.le_zero, Bool.not_eq_true]
    exact or_congr_left (BitVec.toNat_inj (y := 0)).symm
  by_cases hdata : clampLength (shiftIn u.dlc b) = 0 ∨ u.isData = false
  · exact ⟨_, exec_controlDlcLast b n u,
      { source := .control, lo := 4, hi := 4, bit := none, target := .crc15, record := some .control
        guard := fun _ _ t => ¬ (0 < t.dataLen.toNat ∧ t.isData = true) },
      by simp [handlerRows], hst.symm, hi.ge, hi.le, nofun, hnone.1 hdata, (if_pos hdata).symm, hu.errCause,
      _, congrArg (· ++ _) hu.recOut, rfl⟩
  · exact ⟨_, exec_controlDlcLast b n u,
      { source := .control, lo := 4, hi := 4, bit := none, target := .data, record := some .control
        guard := fun _ _ t => 0 < t.dataLen.toNat ∧ t.isData = true },
      by simp [handlerRows], hst.symm, hi.ge, hi.le, nofun, not_not.1 (mt hnone.2 hdata), (if_neg hdata).symm,
      hu.errCause, _, congrArg (· ++ _) hu.recOut, rfl⟩

/-- Within a byte, at the end of a byte, and at the end of the last one. -/
theorem movesByRow_data (hu : s.SamePlace u) (hst : s.state = .data) (hpos : s.InData) :
    MovesByRow b s (exec (.data b n) u) := by
  obtain ⟨hindex, hlen⟩ := hpos
  have hposu : u.InData := ⟨by rw [hu.fieldBitIndex, hu.dataLen]; exact hindex, by rw [hu.dataLen]; exact hlen⟩
  have hbyte : (byteIndex u.fieldBitIndex).val = s.fieldBitIndex.toNat / 8 := by
    rw [hu.fieldBitIndex]
    exact Nat.mod_eq_of_lt (by omega)
  have hbit : bitInByte u.fieldBitIndex = s.fieldBitIndex.toNat % 8 := by rw [hu.fieldBitIndex]
  have hhi : s.fieldBitIndex.toNat ≤ 63 := by omega
  by_cases hwithin : s.fieldBitIndex.toNat % 8 < 7
  · exact ⟨_, exec_data_within b n u hposu (by rw [hbit]; exact hwithin),
      { source := .data, lo := 0, hi := 63, bit := none, target := .data
        guard := fun _ s _ => s.fieldBitIndex.toNat % 8 < 7 },
      by simp [handlerRows], hst.symm, Nat.zero_le _, hhi, nofun, hwithin, (hu.state.trans hst).symm, hu.errCause,
      hu.recOut⟩
  · have hend : s.fieldBitIndex.toNat % 8 = 7 := by omega
    by_cases hlast : s.fieldBitIndex.toNat / 8 + 1 = s.dataLen.toNat
    · exact ⟨_, exec_data_last b n u hposu (by rw [hbit]; exact hend) (by rw [hbyte, hu.dataLen]; exact hlast),
        { source := .data, lo := 0, hi := 63, bit := none, target := .crc15, record := some .dataByte
          guard := fun _ s _ => s.fieldBitIndex.toNat % 8 = 7 ∧ s.fieldBitIndex.toNat / 8 + 1 = s.dataLen.toNat },
        by simp [handlerRows], hst.symm, Nat.zero_le _, hhi, nofun, ⟨hend, hlast⟩, rfl, hu.errCause,
        _, congrArg (· ++ _) hu.recOut, rfl⟩
    · exact ⟨_, exec_data_byte b n u hposu (by rw [hbit]; exact hend) (by rw [hbyte, hu.dataLen]; exact hlast),
        { source := .data, lo := 0, hi := 63, bit := none, target := .data, record := some .dataByte
          guard := fun _ s _ => s.fieldBitIndex.toNat % 8 = 7 ∧ s.fieldBitIndex.toNat / 8 + 1 < s.dataLen.toNat },
        by simp [handlerRows], hst.symm, Nat.zero_le _, hhi, nofun, ⟨hend, by omega⟩, (hu.state.trans hst).symm,
        hu.errCause, _, congrArg (· ++ _) hu.recOut, rfl⟩

theorem movesByRow_crc15Bits (hu : s.SamePlace u) (hst : s.state = .crc15) (hi : s.fieldBitIndex.toNat ≤ 13) :
    MovesByRow b s (exec (.crc15Bits b n) u) :=
  ⟨_, exec_crc15Bits b n u, { source := .crc15, lo := 0, hi := 13, bit := none, target := .crc15 },
    by simp [handlerRows], hst.symm, Nat.zero_le _, hi, nofun, trivial, (hu.state.trans hst).symm, hu.errCause,
    hu.recOut⟩

theorem movesByRow_crc15Last (hu : s.SamePlace u) (hst : s.state = .crc15) (hi : s.fieldBitIndex.toNat = 14) :
    MovesByRow b s (exec (.crc15Last b n) u) := by
  by_cases hcrc : u.crc = 0
  · exact ⟨_, exec_crc15Last_of_zero b n u hcrc,
      { source := .crc15, lo := 14, hi := 14, bit := none, target := .crcDelimiter, record := some .crc
        guard := fun _ _ t => t.crc = 0 },
      by simp [handlerRows], hst.symm, hi.ge, hi.le, nofun, hcrc, rfl, hu.errCause,
      _, congrArg (· ++ _) hu.recOut, rfl⟩
  · exact ⟨_, exec_crc15Last_of_ne_zero b n u hcrc,
      { source := .crc15, lo := 14, hi := 14, bit := none, target := .decoderError, record := some .crc
        cause := some .crcMismatch, guard := fun _ _ t => t.crc ≠ 0 },
      by simp [handlerRows], hst.symm, hi.ge, hi.le, nofun, hcrc, rfl, rfl, _, congrArg (· ++ _) hu.recOut, rfl⟩

theorem movesByRow_crcDelimiter (hu : s.SamePlace u) (hst : s.state = .crcDelimiter) (hi : s.fieldBitIndex.toNat ≤ 0) :
    MovesByRow b s (exec (.crcDelimiter b n) u) := by
  cases b with
  | true =>
    exact ⟨_, exec_crcDelimiter_recessive n u,
      { source := .crcDelimiter, lo := 0, hi := 0, bit := some true, target := .ack },
      by simp [handlerRows], hst.symm, Nat.zero_le _, hi, by simp, trivial, rfl, hu.errCause, hu.recOut⟩
  | false =>
    exact ⟨_, exec_crcDelimiter_dominant n u,
      { source := .crcDelimiter, lo := 0, hi := 0, bit := some false, target := .decoderError
        cause := some .formCrcDelimiter },
      by simp [handlerRows], hst.symm, Nat.zero_le _, hi, by simp, trivial, rfl, rfl, hu.recOut⟩

theorem movesByRow_ackSlot (hu : s.SamePlace u) (hst : s.state = .ack) (hi : s.fieldBitIndex.toNat ≤ 0) :
    MovesByRow b s (exec (.ackSlot b n) u) :=
  ⟨_, exec_ackSlot b n u, { source := .ack, lo := 0, hi := 0, bit := none, target := .ack },
    by simp [handlerRows], hst.symm, Nat.zero_le _, hi, nofun, trivial, (hu.state.trans hst).symm, hu.errCause,
    hu.recOut⟩

theorem movesByRow_ackDelimiter (hu : s.SamePlace u) (hst : s.state = .ack) (hi : s.fieldBitIndex.toNat = 1) :
    MovesByRow b s (exec (.ackDelimiter b n) u) := by
  cases b with
  | true =>
    exact ⟨_, exec_ackDelimiter_recessive n u,
      { source := .ack, lo := 1, hi := 1, bit := some true, target := .endOfFrame, record := some .ack },
      by simp [handlerRows], hst.symm, hi.ge, hi.le, by simp, trivial, rfl, hu.errCause,
      _, congrArg (· ++ _) hu.recOut, rfl⟩
  | false =>
    exact ⟨_, exec_ackDelimiter_dominant n u,
      { source := .ack, lo := 1, hi := 1, bit := some false, target := .decoderError, cause := some .formAckDelimiter },
      by simp [handlerRows], hst.symm, hi.ge, hi.le, by simp, trivial, rfl, rfl, hu.recOut⟩

theorem movesByRow_endOfFrame (hu : s.SamePlace u) (hst : s.state = .endOfFrame) (hi : s.fieldBitIndex.toNat ≤ 6) :
    MovesByRow b s (exec (.endOfFrame b n) u) := by
  have hiu : u.fieldBitIndex.toNat = s.fieldBitIndex.toNat := by rw [hu.fieldBitIndex]
  cases b with
  | true =>
    by_cases hlast : s.fieldBitIndex.toNat = 6
    · exact ⟨_, exec_endOfFrame_last n u (hiu.trans hlast),
        { source := .endOfFrame, lo := 6, hi := 6, bit := some true, target := .intermission, record := some .eof },
        by simp [handlerRows], hst.symm, hlast.ge, hlast.le, by simp, trivial, rfl, hu.errCause,
        _, congrArg (· ++ _) hu.recOut, rfl⟩
    · have hstay : s.fieldBitIndex.toNat ≤ 5 := by omega
      exact ⟨_, exec_endOfFrame_stay n u (by omega),
        { source := .endOfFrame, lo := 0, hi := 5, bit := some true, target := .endOfFrame },
        by simp [handlerRows], hst.symm, Nat.zero_le _, hstay, by simp, trivial, (hu.state.trans hst).symm, hu.errCause,
        hu.recOut⟩
  | false =>
    exact ⟨_, exec_endOfFrame_dominant n u,
      { source := .endOfFrame, lo := 0, hi := 6, bit := some false, target := .decoderError, cause := some .formEof },
      by simp [handlerRows], hst.symm, Nat.zero_le _, hi, by simp, trivial, rfl, rfl, hu.recOut⟩

theorem movesByRow_intermission (hu : s.SamePlace u) (hst : s.state = .intermission) (hi : s.fieldBitIndex.toNat ≤ 2) :
    MovesByRow b s (exec (.intermission b n) u) := by
  have hiu : u.fieldBitIndex.toNat = s.fieldBitIndex.toNat := by rw [hu.fieldBitIndex]
  cases b with
  | true =>
    by_cases hlast : s.fieldBitIndex.toNat = 2
    · exact ⟨_, exec_intermission_last n u (hiu.trans hlast),
        { source := .intermission, lo := 2, hi := 2, bit := some true, target := .idle, record := some .intermission },
        by simp [handlerRows], hst.symm, hlast.ge, hlast.le, by simp, trivial, rfl, hu.errCause,
        _, congrArg (· ++ _) hu.recOut, rfl⟩
    · have hstay : s.fieldBitIndex.toNat ≤ 1 := by omega
      exact ⟨_, exec_intermission_stay n u (by omega),
        { source := .intermission, lo := 0, hi := 1, bit := some true, target := .intermission },
        by simp [handlerRows], hst.symm, Nat.zero_le _, hstay, by simp, trivial, (hu.state.trans hst).symm, hu.errCause,
        hu.recOut⟩
  | false =>
    exact ⟨_, exec_intermission_dominant n u,
      { source := .intermission, lo := 0, hi := 2, bit := some false, target := .decoderError
        cause := some .formIntermission },
      by simp [handlerRows], hst.symm, Nat.zero_le _, hi, by simp, trivial, rfl, rfl, hu.recOut⟩

/-! ### A forwarded bit -/

theorem State.SamePlace.feedForward {v : State} (h : s.SamePlace v) : s.SamePlace (feedForward b v) where
  state := by simpa using h.state
  fieldBitIndex := by simpa using h.fieldBitIndex
  dataLen := by simpa using h.dataLen
  errCause := by simpa using h.errCause
  recOut := by simpa using h.recOut

/-- A bit forwarded at a legal position outside recovery moves by a row of the table. -/
theorem movesByRow_forward {v : State} (hv : s.SamePlace v) (hpos : s.PositionLegal) (herr : s.state ≠ .decoderError) :
    MovesByRow b s (forward b n v) := by
  obtain ⟨hindex, hlen⟩ := hpos
  have hu := hv.feedForward (b := b)
  have hi := congrArg BitVec.toNat hv.fieldBitIndex
  cases hst : s.state <;> rw [hst] at hindex
  case idle =>
    replace hindex : s.fieldBitIndex.toNat < 1 := hindex
    rw [forward_eq_exec (hv.state.trans hst) selects_idle (Nat.zero_le _) (by omega)]
    exact movesByRow_idle hu hst (by omega)
  case identifier =>
    replace hindex : s.fieldBitIndex.toNat < 13 := hindex
    rcases (by omega : s.fieldBitIndex.toNat ≤ 10 ∨ s.fieldBitIndex.toNat = 11 ∨ s.fieldBitIndex.toNat = 12)
      with hrow | hrow | hrow
    · rw [forward_eq_exec (hv.state.trans hst) selects_identifierId (by omega) (by omega)]
      exact movesByRow_identifierId hu hst hrow
    · rw [forward_eq_exec (hv.state.trans hst) selects_identifierRtr (by omega) (by omega)]
      exact movesByRow_identifierRtr hu hst hrow
    · rw [forward_eq_exec (hv.state.trans hst) selects_identifierIde (by omega) (by omega)]
      exact movesByRow_identifierIde hu hst hrow
  case extIdentifier =>
    replace hindex : s.fieldBitIndex.toNat < 20 := hindex
    rcases (by omega : s.fieldBitIndex.toNat ≤ 17 ∨ s.fieldBitIndex.toNat = 18 ∨ s.fieldBitIndex.toNat = 19)
      with hrow | hrow | hrow
    · rw [forward_eq_exec (hv.state.trans hst) selects_extIdentifierId (by omega) (by omega)]
      exact movesByRow_extIdentifierId hu hst hrow
    · rw [forward_eq_exec (hv.state.trans hst) selects_extIdentifierRtr (by omega) (by omega)]
      exact movesByRow_extIdentifierRtr hu hst hrow
    · rw [forward_eq_exec (hv.state.trans hst) selects_extIdentifierR1 (by omega) (by omega)]
      exact movesByRow_extIdentifierR1 hu hst hrow
  case control =>
    replace hindex : s.fieldBitIndex.toNat < 5 := hindex
    rcases (by omega : s.fieldBitIndex.toNat ≤ 0 ∨
        (1 ≤ s.fieldBitIndex.toNat ∧ s.fieldBitIndex.toNat ≤ 3) ∨ s.fieldBitIndex.toNat = 4)
      with hrow | ⟨hlo, hhi⟩ | hrow
    · rw [forward_eq_exec (hv.state.trans hst) selects_controlR0 (by omega) (by omega)]
      exact movesByRow_controlR0 hu hst hrow
    · rw [forward_eq_exec (hv.state.trans hst) selects_controlDlc (by omega) (by omega)]
      exact movesByRow_controlDlc hu hst hlo hhi
    · rw [forward_eq_exec (hv.state.trans hst) selects_controlDlcLast (by omega) (by omega)]
      exact movesByRow_controlDlcLast hu hst hrow
  case data =>
    replace hindex : s.fieldBitIndex.toNat < 8 * s.dataLen.toNat := hindex
    rw [forward_eq_exec (hv.state.trans hst) selects_data (Nat.zero_le _) (by omega)]
    exact movesByRow_data hu hst ⟨hindex, hlen⟩
  case crc15 =>
    replace hindex : s.fieldBitIndex.toNat < 15 := hindex
    rcases (by omega : s.fieldBitIndex.toNat ≤ 13 ∨ s.fieldBitIndex.toNat = 14) with hrow | hrow
    · rw [forward_eq_exec (hv.state.trans hst) selects_crc15Bits (by omega) (by omega)]
      exact movesByRow_crc15Bits hu hst hrow
    · rw [forward_eq_exec (hv.state.trans hst) selects_crc15Last (by omega) (by omega)]
      exact movesByRow_crc15Last hu hst hrow
  case crcDelimiter =>
    replace hindex : s.fieldBitIndex.toNat < 1 := hindex
    rw [forward_eq_exec (hv.state.trans hst) selects_crcDelimiter (by omega) (by omega)]
    exact movesByRow_crcDelimiter hu hst (by omega)
  case ack =>
    replace hindex : s.fieldBitIndex.toNat < 2 := hindex
    rcases (by omega : s.fieldBitIndex.toNat ≤ 0 ∨ s.fieldBitIndex.toNat = 1) with hrow | hrow
    · rw [forward_eq_exec (hv.state.trans hst) selects_ackSlot (by omega) (by omega)]
      exact movesByRow_ackSlot hu hst hrow
    · rw [forward_eq_exec (hv.state.trans hst) selects_ackDelimiter (by omega) (by omega)]
      exact movesByRow_ackDelimiter hu hst hrow
  case endOfFrame =>
    replace hindex : s.fieldBitIndex.toNat < 7 := hindex
    rw [forward_eq_exec (hv.state.trans hst) selects_endOfFrame (by omega) (by omega)]
    exact movesByRow_endOfFrame hu hst (by omega)
  case intermission =>
    replace hindex : s.fieldBitIndex.toNat < 3 := hindex
    rw [forward_eq_exec (hv.state.trans hst) selects_intermission (by omega) (by omega)]
    exact movesByRow_intermission hu hst (by omega)
  case decoderError => exact absurd hst herr
  all_goals exact absurd hindex (Nat.not_lt_zero _)

/-! ### A bit in recovery -/

/-- The exit test of `ErrorBit` holds exactly at the eleventh consecutive recessive bit, which has not been seen before
(R246, R247). -/
theorem recoveryExit_iff_eleventhRecessive (hrec : s.lastBit = true → s.runLength.toNat ≤ 10) :
    ((trackRaw b s).lastBit = true ∧ Config.recoveryBits ≤ (trackRaw b s).runLength) ↔ eleventhRecessive b s := by
  rw [trackRaw_lastBit, BitVec.le_def, trackRaw_runLength, apply_ite BitVec.toNat, runNext_toNat, eleventhRecessive]
  refine and_congr_right fun hb => ?_
  subst hb
  cases hlast : s.lastBit with
  | false => simp
  | true =>
    have hle := hrec hlast
    have heleven : Config.recoveryBits.toNat = 11 := rfl
    simp only [heleven, if_true, true_and]
    omega

theorem movesByRow_decoderError (hst : s.state = .decoderError) (hi : s.fieldBitIndex.toNat ≤ 0)
    (hrec : s.lastBit = true → s.runLength.toNat ≤ 10) : MovesByRow b s (execDecoderError b n s) := by
  have hexit := recoveryExit_iff_eleventhRecessive (b := b) (s := emitMrk .error b n s) hrec
  by_cases heleventh : eleventhRecessive b s
  · exact ⟨_, if_pos (hexit.2 heleventh),
      { source := .decoderError, lo := 0, hi := 0, bit := some true, target := .idle, record := some .decodeError
        guard := fun b s _ => eleventhRecessive b s },
      by simp [handlerRows], hst.symm, Nat.zero_le _, hi, by simp [heleventh.1], heleventh, rfl,
      by simp [recoveryExit], _, by simp [recoveryExit]; rfl, rfl⟩
  · exact ⟨_, if_neg (mt hexit.1 heleventh),
      { source := .decoderError, lo := 0, hi := 0, bit := none, target := .decoderError
        guard := fun b s _ => ¬ eleventhRecessive b s },
      by simp [handlerRows], hst.symm, Nat.zero_le _, hi, nofun, heleventh, by simp [hst], by simp, by simp⟩

/-! ### A BitEvent -/

theorem State.SamePlace.refl (s : State) : s.SamePlace s := ⟨rfl, rfl, rfl, rfl, rfl⟩

theorem State.SamePlace.trackSame (s : State) : s.SamePlace (trackSame s) := ⟨rfl, rfl, rfl, rfl, rfl⟩

theorem State.SamePlace.trackRestart (b : Bit) (s : State) : s.SamePlace (trackRestart b s) := ⟨rfl, rfl, rfl, rfl, rfl⟩

/-- No state has more than the 64 positions of eight data bytes (R32). -/
theorem State.PositionLegal.fieldBitIndex_le (h : s.PositionLegal) : s.fieldBitIndex.toNat ≤ 63 := by
  obtain ⟨hindex, hlen⟩ := h
  have hmax : s.state.positions s.dataLen ≤ 64 := by
    cases s.state <;> simp only [FieldState.positions] <;> omega
  omega

/-- The active De-stuffer is in the stuffed region (R51), where R203 has the two rows of a bit it consumes. -/
theorem State.Inv.destuffRows_eq (h : s.Inv) (hactive : s.destuffActive = true) :
    destuffRows s.state =
      [{ source := s.state, lo := 0, hi := 63, bit := none, target := .decoderError, cause := some .stuff
         guard := fun b s _ => s.destuffActive = true ∧ s.runLength = 5 ∧ b = s.lastBit },
       { source := s.state, lo := 0, hi := 63, bit := none, target := s.state
         guard := fun b s _ => s.destuffActive = true ∧ s.runLength = 5 ∧ b ≠ s.lastBit }] :=
  if_pos (h.destuff ▸ hactive)

/-- A bit that a handler consumes moves by one of all the rows. -/
theorem MovesByRow.exists_row {o : Result} {t : State} (h : MovesByRow b s o) (ht : o = .next t)
    (more : List TransitionRow) : ∃ r ∈ handlerRows ++ more, r.Describes b s t := by
  obtain ⟨t', ht', r, hr, hd⟩ := h
  obtain rfl : t' = t := by rw [ht] at ht'; cases ht'; rfl
  exact ⟨r, List.mem_append_left _ hr, hd⟩

/-- Settles O49, by the case of the De-stuffer: recovery and the three forwarding cases move by a handler's row, the
other two by the De-stuffer's own. -/
theorem everyMoveIsARowOfTheTransitionTable : Obligations.EveryMoveIsARowOfTheTransitionTable := by
  unfold Obligations.EveryMoveIsARowOfTheTransitionTable
  intro b n s t hinv ht
  rw [processBitEvent_eq_exec_destuffCase, destuffCase] at ht
  split_ifs at ht with herr hinactive hstuff hviolation hsame
  · have hindex : s.fieldBitIndex.toNat < 1 := by simpa [herr, FieldState.positions] using hinv.position.1
    exact (movesByRow_decoderError herr (by omega) (hinv.recovery herr)).exists_row ht _
  · exact (movesByRow_forward (.refl s) hinv.position herr).exists_row ht _
  · have hactive : s.destuffActive = true := by simpa using hinactive
    rw [exec_dsStuffBit] at ht
    cases ht
    rw [hinv.destuffRows_eq hactive]
    exact ⟨_, List.mem_append_right _ (.tail _ (.head _)), rfl, Nat.zero_le _, hinv.position.fieldBitIndex_le, nofun,
      ⟨hactive, hstuff⟩, rfl, rfl, rfl⟩
  · have hactive : s.destuffActive = true := by simpa using hinactive
    rw [exec_dsViolation] at ht
    cases ht
    rw [hinv.destuffRows_eq hactive]
    exact ⟨_, List.mem_append_right _ (.head _), rfl, Nat.zero_le _, hinv.position.fieldBitIndex_le, nofun,
      ⟨hactive, hviolation⟩, rfl, rfl, rfl⟩
  · exact (movesByRow_forward (.trackSame s) hinv.position herr).exists_row ht _
  · exact (movesByRow_forward (.trackRestart b s) hinv.position herr).exists_row ht _

end
end Sys2Proof.Machine

namespace Sys2Proof.Machine

/-! ## An encoded frame is decoded exactly (R99, R205)

`FrameView` is what the frame FSM reads and reports of a frame, sample numbers and tracker left out. `Receives bits v w`
says that the handlers, given the logical bits, take the view from `v` to `w`; it is proved field by field. The De-stuffer
is added once, for every such reception: `Receives.of_stuffed_short` for the stuffed region, `Receives.of_raw` after it. -/

/-! ### Field assembly -/

theorem length_msbFirst {w : Nat} (v : BitVec w) : (msbFirst v).length = w := by simp [msbFirst]

/-- The bits of a value are those of its upper part, then its lowest. -/
theorem msbFirst_succ {w : Nat} (v : BitVec (w + 1)) :
    msbFirst v = msbFirst (v.extractLsb' 1 w) ++ [v.getLsbD 0] := by
  have hlast : w + 1 - 1 - w = 0 := by omega
  rw [msbFirst, List.range_succ, List.map_append, List.map_singleton, hlast, msbFirst]
  congr 1
  refine List.map_congr_left fun i hi => ?_
  have hlt : i < w := List.mem_range.1 hi
  rw [BitVec.getLsbD_extractLsb', decide_eq_true (by omega), Bool.true_and]
  congr 1
  omega

/-- A value is twice its upper part plus its lowest bit. -/
theorem toNat_eq_two_mul_extractLsb' {w : Nat} (v : BitVec (w + 1)) :
    v.toNat = 2 * (v.extractLsb' 1 w).toNat + (v.getLsbD 0).toNat := by
  have hlt : v.toNat / 2 < 2 ^ w := by have := v.isLt; rw [Nat.pow_succ] at this; omega
  have hupper : (v.extractLsb' 1 w).toNat = v.toNat / 2 := by
    rw [BitVec.extractLsb'_toNat, Nat.shiftRight_eq_div_pow, Nat.pow_one, Nat.mod_eq_of_lt hlt]
  have hlowest : (v.getLsbD 0).toNat = v.toNat % 2 := by
    rw [BitVec.getLsbD, Nat.testBit_zero]
    rcases Nat.mod_two_eq_zero_or_one v.toNat with h | h <;> simp [h]
  omega

/-- Shifting the bits of a value into a register, most significant first, appends the value. -/
theorem toNat_foldl_shiftIn {u w : Nat} (hu : 0 < u) (acc : BitVec u) (v : BitVec w) :
    ((msbFirst v).foldl shiftIn acc).toNat = (acc.toNat * 2 ^ w + v.toNat) % 2 ^ u := by
  induction w with
  | zero =>
    have hzero : v.toNat = 0 := by have := v.isLt; omega
    rw [hzero]
    simp [msbFirst]
  | succ w ih =>
    have hsplit := toNat_eq_two_mul_extractLsb' v
    have hpow : acc.toNat * 2 ^ (w + 1) = 2 * (acc.toNat * 2 ^ w) := by ring
    rw [msbFirst_succ, List.foldl_append, List.foldl_cons, List.foldl_nil, shiftIn_toNat hu, ih, hpow]
    conv_rhs => rw [hsplit, ← Nat.add_assoc, ← Nat.mul_add]
    rw [Nat.add_mod, Nat.mul_mod_mod, ← Nat.add_mod]

/-- A register of a value's own width that was 0 then holds the value. -/
theorem foldl_shiftIn_zero {w : Nat} (hw : 0 < w) (v : BitVec w) : (msbFirst v).foldl shiftIn 0 = v := by
  have hzero : (0 : BitVec w).toNat = 0 := by simp
  apply BitVec.eq_of_toNat_eq
  rw [toNat_foldl_shiftIn hw, hzero, Nat.zero_mul, Nat.zero_add, Nat.mod_eq_of_lt v.isLt]

/-- The upper bits shifted in, the lowest completes the value. -/
theorem shiftIn_foldl_upper {w : Nat} (v : BitVec (w + 1)) :
    shiftIn ((msbFirst (v.extractLsb' 1 w)).foldl shiftIn 0) (v.getLsbD 0) = v := by
  have hvalue := foldl_shiftIn_zero (Nat.succ_pos w) v
  rwa [msbFirst_succ, List.foldl_append] at hvalue

/-! ### The CRC sequence leaves no residue (R234) -/

theorem crcFeedAll_append (c : BitVec 15) (xs ys : List Bit) :
    crcFeedAll c (xs ++ ys) = crcFeedAll (crcFeedAll c xs) ys := List.foldl_append

theorem crcFeedAll_cons (c : BitVec 15) (b : Bit) (bits : List Bit) :
    crcFeedAll c (b :: bits) = crcFeedAll (crcFeed c b) bits := rfl

/-- A bit that equals the accumulator's top bit only shifts it (R230). -/
theorem crcFeed_top (c : BitVec 15) : crcFeed c (c.getLsbD 14) = c <<< 1 := by simp [crcFeed]

/-- The bits of the accumulator itself, fed most significant first, shift it out. -/
theorem crcFeedAll_top_bits (P : BitVec 15) (j : Nat) (hj : j ≤ 15) :
    crcFeedAll P ((List.range j).map fun i => P.getLsbD (14 - i)) = P <<< j := by
  induction j with
  | zero => simp [crcFeedAll]
  | succ j ih =>
    have htop : (P <<< j).getLsbD 14 = P.getLsbD (14 - j) := by
      rw [BitVec.getLsbD_shiftLeft, decide_eq_true (by decide), decide_eq_false (by omega), Bool.not_false,
        Bool.true_and, Bool.true_and]
    rw [List.range_succ, List.map_append, List.map_singleton, crcFeedAll_append, ih (by omega), ← htop, crcFeedAll,
      List.foldl_cons, List.foldl_nil, crcFeed_top, BitVec.shiftLeft_add]

theorem crcFeedAll_msbFirst_self (P : BitVec 15) : crcFeedAll P (msbFirst P) = 0 := by
  refine (crcFeedAll_top_bits P 15 le_rfl).trans ?_
  simp

end Sys2Proof.Machine

namespace Sys2Proof.Machine

/-! ### What the handlers read and report of a frame -/

/-- The registers the handlers of an error-free frame depend on and what has been reported, without sample numbers. -/
structure FrameView where
  state : FieldState
  index : Nat
  isData : Bool
  ackNacked : Bool
  identifier : BitVec 29
  dlc : BitVec 4
  dataLen : BitVec 4
  crc : BitVec 15
  crcRx : BitVec 15
  data : DataBuffer
  errCause : Cause
  report : List (RecordKind × BitVec 64 × BitVec 64)

/-- The view of a state. -/
def State.view (s : State) : FrameView where
  state := s.state
  index := s.fieldBitIndex.toNat
  isData := s.isData
  ackNacked := s.ackNacked
  identifier := s.identifier
  dlc := s.dlc
  dataLen := s.dataLen
  crc := s.crc
  crcRx := s.crcRx
  data := s.data
  errCause := s.errCause
  report := s.recOut.map fun r => (r.kind, r.p0, r.p1)

/-- What the De-stuffer looks at besides the state. -/
def State.tracker (s : State) : Bool × Bit × BitVec 4 := (s.destuffActive, s.lastBit, s.runLength)

theorem feedForward_tracker (b : Bit) (s : State) : (feedForward b s).tracker = s.tracker := by
  simp [State.tracker]

theorem trackRaw_view (b : Bit) (s : State) : (trackRaw b s).view = s.view := by simp [State.view]

/-! ### Consuming one bit -/

/-- Outside recovery, forwarding the bit, whatever its sample number, takes the view from `v` to `w` and leaves the
tracker. -/
def Consumes (b : Bit) (v w : FrameView) : Prop :=
  v.state ≠ .decoderError ∧ ∀ (n : Sample) (s : State), s.view = v →
    ∃ t, forward b n s = .next t ∧ t.view = w ∧ t.tracker = s.tracker

section
variable {b : Bit} {v : FrameView}

theorem consumes_identifierId (hst : v.state = .identifier) (hi : v.index ≤ 10) :
    Consumes b v
      { v with index := v.index + 1, identifier := shiftIn v.identifier b, crc := crcFeed v.crc b } := by
  refine ⟨by simp [hst], ?_⟩
  rintro n s rfl
  replace hst : s.state = .identifier := hst
  replace hi : s.fieldBitIndex.toNat ≤ 10 := hi
  exact ⟨_, (forward_eq_exec hst selects_identifierId (Nat.zero_le _) hi).trans (exec_identifierId b n _),
    by simp [State.view, hst, crcIsFed, (by omega : s.fieldBitIndex.toNat + 1 < 128)], feedForward_tracker b s⟩

theorem consumes_identifierRtr (hst : v.state = .identifier) (hi : v.index = 11) :
    Consumes b v { v with index := 12, isData := !b, crc := crcFeed v.crc b } := by
  refine ⟨by simp [hst], ?_⟩
  rintro n s rfl
  replace hst : s.state = .identifier := hst
  exact ⟨_, (forward_eq_exec hst selects_identifierRtr hi.ge hi.le).trans (exec_identifierRtr b n _),
    by simp [State.view, hst, crcIsFed], feedForward_tracker b s⟩

theorem consumes_identifierIde_recessive (hst : v.state = .identifier) (hi : v.index = 12) :
    Consumes true v { v with state := .extIdentifier, index := 0, crc := crcFeed v.crc true } := by
  refine ⟨by simp [hst], ?_⟩
  rintro n s rfl
  replace hst : s.state = .identifier := hst
  exact ⟨_, (forward_eq_exec hst selects_identifierIde hi.ge hi.le).trans (exec_identifierIde_recessive n _),
    by simp [State.view, hst, crcIsFed], feedForward_tracker true s⟩

theorem consumes_identifierIde_dominant (hst : v.state = .identifier) (hi : v.index = 12) :
    Consumes false v
      { v with
        state := .control, index := 0, crc := crcFeed v.crc false
        report := v.report ++
          [(.standardIdentifier, (v.identifier.extractLsb' 0 11).setWidth 64, flagPayload v.isData)] } := by
  refine ⟨by simp [hst], ?_⟩
  rintro n s rfl
  replace hst : s.state = .identifier := hst
  exact ⟨_, (forward_eq_exec hst selects_identifierIde hi.ge hi.le).trans (exec_identifierIde_dominant n _),
    by simp [State.view, hst, crcIsFed, bitPayload_eq_flagPayload], feedForward_tracker false s⟩

theorem consumes_extIdentifierId (hst : v.state = .extIdentifier) (hi : v.index ≤ 17) :
    Consumes b v
      { v with index := v.index + 1, identifier := shiftIn v.identifier b, crc := crcFeed v.crc b } := by
  refine ⟨by simp [hst], ?_⟩
  rintro n s rfl
  replace hst : s.state = .extIdentifier := hst
  replace hi : s.fieldBitIndex.toNat ≤ 17 := hi
  exact ⟨_, (forward_eq_exec hst selects_extIdentifierId (Nat.zero_le _) hi).trans (exec_extIdentifierId b n _),
    by simp [State.view, hst, crcIsFed, (by omega : s.fieldBitIndex.toNat + 1 < 128)], feedForward_tracker b s⟩

theorem consumes_extIdentifierRtr (hst : v.state = .extIdentifier) (hi : v.index = 18) :
    Consumes b v { v with index := 19, isData := !b, crc := crcFeed v.crc b } := by
  refine ⟨by simp [hst], ?_⟩
  rintro n s rfl
  replace hst : s.state = .extIdentifier := hst
  exact ⟨_, (forward_eq_exec hst selects_extIdentifierRtr hi.ge hi.le).trans (exec_extIdentifierRtr b n _),
    by simp [State.view, hst, crcIsFed], feedForward_tracker b s⟩

theorem consumes_extIdentifierR1_dominant (hst : v.state = .extIdentifier) (hi : v.index = 19) :
    Consumes false v
      { v with
        state := .control, index := 0, crc := crcFeed v.crc false
        report := v.report ++ [(.extendedIdentifier, v.identifier.setWidth 64, flagPayload v.isData)] } := by
  refine ⟨by simp [hst], ?_⟩
  rintro n s rfl
  replace hst : s.state = .extIdentifier := hst
  exact ⟨_, (forward_eq_exec hst selects_extIdentifierR1 hi.ge hi.le).trans (exec_extIdentifierR1_dominant n _),
    by simp [State.view, hst, crcIsFed, bitPayload_eq_flagPayload], feedForward_tracker false s⟩

theorem consumes_controlR0_dominant (hst : v.state = .control) (hi : v.index = 0) :
    Consumes false v { v with index := 1, crc := crcFeed v.crc false } := by
  refine ⟨by simp [hst], ?_⟩
  rintro n s rfl
  replace hst : s.state = .control := hst
  exact ⟨_, (forward_eq_exec hst selects_controlR0 hi.ge hi.le).trans (exec_controlR0_dominant n _),
    by simp [State.view, hst, crcIsFed], feedForward_tracker false s⟩

theorem consumes_controlDlc (hst : v.state = .control) (hlo : 1 ≤ v.index) (hhi : v.index ≤ 3) :
    Consumes b v { v with index := v.index + 1, dlc := shiftIn v.dlc b, crc := crcFeed v.crc b } := by
  refine ⟨by simp [hst], ?_⟩
  rintro n s rfl
  replace hst : s.state = .control := hst
  replace hhi : s.fieldBitIndex.toNat ≤ 3 := hhi
  exact ⟨_, (forward_eq_exec hst selects_controlDlc hlo hhi).trans (exec_controlDlc b n _),
    by simp [State.view, hst, crcIsFed, (by omega : s.fieldBitIndex.toNat + 1 < 128)], feedForward_tracker b s⟩

theorem consumes_controlDlcLast (hst : v.state = .control) (hi : v.index = 4) :
    Consumes b v
      { v with
        state := if clampLength (shiftIn v.dlc b) = 0 ∨ v.isData = false then .crc15 else .data
        index := 0, dlc := shiftIn v.dlc b, dataLen := clampLength (shiftIn v.dlc b), crc := crcFeed v.crc b
        report := v.report ++ [(.control, (shiftIn v.dlc b).setWidth 64, 0)] } := by
  refine ⟨by simp [hst], ?_⟩
  rintro n s rfl
  replace hst : s.state = .control := hst
  exact ⟨_, (forward_eq_exec hst selects_controlDlcLast hi.ge hi.le).trans (exec_controlDlcLast b n _),
    by simp [State.view, hst, crcIsFed], feedForward_tracker b s⟩

theorem consumes_crc15Bits (hst : v.state = .crc15) (hi : v.index ≤ 13) :
    Consumes b v { v with index := v.index + 1, crcRx := shiftIn v.crcRx b, crc := crcFeed v.crc b } := by
  refine ⟨by simp [hst], ?_⟩
  rintro n s rfl
  replace hst : s.state = .crc15 := hst
  replace hi : s.fieldBitIndex.toNat ≤ 13 := hi
  exact ⟨_, (forward_eq_exec hst selects_crc15Bits (Nat.zero_le _) hi).trans (exec_crc15Bits b n _),
    by simp [State.view, hst, crcIsFed, (by omega : s.fieldBitIndex.toNat + 1 < 128)], feedForward_tracker b s⟩

/-- The fifteenth CRC bit where it leaves no residue. -/
theorem consumes_crc15Last (hst : v.state = .crc15) (hi : v.index = 14) (hcrc : crcFeed v.crc b = 0) :
    Consumes b v
      { v with
        state := .crcDelimiter, index := 0, crcRx := shiftIn v.crcRx b, crc := 0
        report := v.report ++ [(.crc, (shiftIn v.crcRx b).setWidth 64, 0)] } := by
  refine ⟨by simp [hst], ?_⟩
  rintro n s rfl
  replace hst : s.state = .crc15 := hst
  have hzero : (feedForward b s).crc = 0 := by rw [feedForward_crc, hst]; exact hcrc
  refine ⟨_, (forward_eq_exec hst selects_crc15Last hi.ge hi.le).trans (exec_crc15Last_of_zero b n _ hzero), ?_,
    feedForward_tracker b s⟩
  simp only [hzero]
  simp [State.view]

theorem consumes_ackSlot (hst : v.state = .ack) (hi : v.index = 0) :
    Consumes b v { v with index := 1, ackNacked := b } := by
  refine ⟨by simp [hst], ?_⟩
  rintro n s rfl
  replace hst : s.state = .ack := hst
  exact ⟨_, (forward_eq_exec hst selects_ackSlot hi.ge hi.le).trans (exec_ackSlot b n _),
    by simp [State.view, hst, crcIsFed], feedForward_tracker b s⟩

theorem consumes_ackDelimiter_recessive (hst : v.state = .ack) (hi : v.index = 1) :
    Consumes true v
      { v with
        state := .endOfFrame, index := 0, report := v.report ++ [(.ack, flagPayload v.ackNacked, 0)] } := by
  refine ⟨by simp [hst], ?_⟩
  rintro n s rfl
  replace hst : s.state = .ack := hst
  exact ⟨_, (forward_eq_exec hst selects_ackDelimiter hi.ge hi.le).trans (exec_ackDelimiter_recessive n _),
    by simp [State.view, hst, crcIsFed, bitPayload_eq_flagPayload], feedForward_tracker true s⟩

theorem consumes_endOfFrame_stay (hst : v.state = .endOfFrame) (hi : v.index ≤ 5) :
    Consumes true v { v with index := v.index + 1 } := by
  refine ⟨by simp [hst], ?_⟩
  rintro n s rfl
  replace hst : s.state = .endOfFrame := hst
  replace hi : s.fieldBitIndex.toNat ≤ 5 := hi
  exact ⟨_, (forward_eq_exec hst selects_endOfFrame (Nat.zero_le _) (by omega)).trans
      (exec_endOfFrame_stay n _ (by rw [feedForward_fieldBitIndex]; omega)),
    by simp [State.view, hst, crcIsFed, (by omega : s.fieldBitIndex.toNat + 1 < 128)], feedForward_tracker true s⟩

theorem consumes_endOfFrame_last (hst : v.state = .endOfFrame) (hi : v.index = 6) :
    Consumes true v { v with state := .intermission, index := 0, report := v.report ++ [(.eof, 0, 0)] } := by
  refine ⟨by simp [hst], ?_⟩
  rintro n s rfl
  replace hst : s.state = .endOfFrame := hst
  exact ⟨_, (forward_eq_exec hst selects_endOfFrame (Nat.zero_le _) hi.le).trans
      (exec_endOfFrame_last n _ (by rw [feedForward_fieldBitIndex]; exact hi)),
    by simp [State.view, hst, crcIsFed], feedForward_tracker true s⟩

theorem consumes_intermission_stay (hst : v.state = .intermission) (hi : v.index ≤ 1) :
    Consumes true v { v with index := v.index + 1 } := by
  refine ⟨by simp [hst], ?_⟩
  rintro n s rfl
  replace hst : s.state = .intermission := hst
  replace hi : s.fieldBitIndex.toNat ≤ 1 := hi
  exact ⟨_, (forward_eq_exec hst selects_intermission (Nat.zero_le _) (by omega)).trans
      (exec_intermission_stay n _ (by rw [feedForward_fieldBitIndex]; omega)),
    by simp [State.view, hst, crcIsFed, (by omega : s.fieldBitIndex.toNat + 1 < 128)], feedForward_tracker true s⟩

/-! ### Consuming a data bit -/

/-- The view is at bit `j` of data byte `k` of a frame that declares it. -/
structure FrameView.AtDataBit (v : FrameView) (k : Fin 8) (j : Nat) : Prop where
  state : v.state = .data
  index : v.index = 8 * k.val + j
  bit : j < 8
  declared : k.val < v.dataLen.toNat
  length : v.dataLen.toNat ≤ 8

variable {k : Fin 8} {j : Nat}

/-- What DATA's effect turns on, in the state the handler sees. -/
theorem FrameView.AtDataBit.handler_position {s : State} (h : s.view.AtDataBit k j) (b : Bit) :
    (feedForward b s).InData ∧ byteIndex (feedForward b s).fieldBitIndex = k ∧
      bitInByte (feedForward b s).fieldBitIndex = j := by
  obtain ⟨-, hindex, hbit, hdeclared, hlen⟩ := h
  replace hindex : s.fieldBitIndex.toNat = 8 * k.val + j := hindex
  replace hdeclared : k.val < s.dataLen.toNat := hdeclared
  replace hlen : s.dataLen.toNat ≤ 8 := hlen
  refine ⟨⟨?_, ?_⟩, Fin.ext ?_, ?_⟩
  · rw [feedForward_fieldBitIndex, feedForward_dataLen]; omega
  · rwa [feedForward_dataLen]
  · rw [feedForward_fieldBitIndex]
    show s.fieldBitIndex.toNat / 8 % 8 = k.val
    omega
  · rw [feedForward_fieldBitIndex, bitInByte]; omega

theorem FrameView.AtDataBit.forward_eq_exec_data {s : State} (h : s.view.AtDataBit k j) (n : Sample) :
    forward b n s = exec (.data b n) (feedForward b s) := by
  obtain ⟨hst, hindex, hbit, -, -⟩ := h
  replace hindex : s.fieldBitIndex.toNat = 8 * k.val + j := hindex
  exact forward_eq_exec hst selects_data (Nat.zero_le _) (by omega)

theorem consumes_data_within (h : v.AtDataBit k j) (hj : j < 7) :
    Consumes b v
      { v with
        index := v.index + 1, data := v.data.set k (shiftIn (v.data.get k) b), crc := crcFeed v.crc b } := by
  refine ⟨by simp [h.state], ?_⟩
  rintro n s rfl
  obtain ⟨hpos, hbyte, hbit⟩ := h.handler_position b
  have hst : s.state = .data := h.state
  have hindex : s.fieldBitIndex.toNat = 8 * k.val + j := h.index
  refine ⟨_, (h.forward_eq_exec_data n).trans (exec_data_within b n _ hpos (hbit ▸ hj)), ?_, feedForward_tracker b s⟩
  simp only [State.byteWith, hbyte]
  simp [State.view, hst, crcIsFed, (by omega : s.fieldBitIndex.toNat + 1 < 128)]

/-- The eighth bit of a byte reports it, and ends DATA if the byte is the last. -/
theorem consumes_data_eighth (h : v.AtDataBit k 7) :
    Consumes b v
      { v with
        state := if k.val + 1 = v.dataLen.toNat then .crc15 else .data
        index := if k.val + 1 = v.dataLen.toNat then 0 else v.index + 1
        data := v.data.set k (shiftIn (v.data.get k) b), crc := crcFeed v.crc b
        report := v.report ++ [(.dataByte, (shiftIn (v.data.get k) b).setWidth 64, BitVec.ofNat 64 k.val)] } := by
  refine ⟨by simp [h.state], ?_⟩
  rintro n s rfl
  obtain ⟨hpos, hbyte, hbit⟩ := h.handler_position b
  have hst : s.state = .data := h.state
  have hindex : s.fieldBitIndex.toNat = 8 * k.val + 7 := h.index
  have hlen : (byteIndex (feedForward b s).fieldBitIndex).val + 1 = (feedForward b s).dataLen.toNat ↔
      k.val + 1 = s.view.dataLen.toNat := by rw [hbyte, feedForward_dataLen]; rfl
  rw [h.forward_eq_exec_data]
  by_cases hlast : k.val + 1 = s.view.dataLen.toNat
  · refine ⟨_, exec_data_last b n _ hpos hbit (hlen.2 hlast), ?_, feedForward_tracker b s⟩
    simp only [State.byteWith, hbyte, if_pos hlast]
    simp [State.view, hst, crcIsFed]
  · refine ⟨_, exec_data_byte b n _ hpos hbit (mt hlen.1 hlast), ?_, feedForward_tracker b s⟩
    simp only [State.byteWith, hbyte, if_neg hlast]
    simp [State.view, hst, crcIsFed, (by omega : s.fieldBitIndex.toNat + 1 < 128)]

end
end Sys2Proof.Machine

namespace Sys2Proof.Machine

/-! ### Receiving a sequence of bits -/

/-- The handlers, given these logical bits one after another outside recovery, take the view from the first to the
second. -/
inductive Receives : List Bit → FrameView → FrameView → Prop where
  | nil (v : FrameView) : Receives [] v v
  | cons {b : Bit} {rest : List Bit} {v w x : FrameView} (hb : Consumes b v w) (hrest : Receives rest w x) :
      Receives (b :: rest) v x

theorem Receives.single {b : Bit} {v w : FrameView} (hb : Consumes b v w) : Receives [b] v w := .cons hb (.nil w)

theorem Receives.append {xs ys : List Bit} {u v w : FrameView} (hx : Receives xs u v) (hy : Receives ys v w) :
    Receives (xs ++ ys) u w := by
  induction hx with
  | nil => exact hy
  | cons hb _ ih => exact .cons hb (ih hy)

/-- A field is received when each of its bits is: `after` says where the view stands after the bits so far. -/
theorem Receives.field {after : List Bit → FrameView} (bits : List Bit)
    (hbit : ∀ pre b, pre.length < bits.length → Consumes b (after pre) (after (pre ++ [b]))) :
    Receives bits (after []) (after bits) := by
  induction bits using List.reverseRecOn with
  | nil => exact .nil _
  | append_singleton xs b ih =>
    have hlen : (xs ++ [b]).length = xs.length + 1 := by simp
    exact (ih fun pre c hpre => hbit pre c (by omega)).append (.single (hbit xs b (by omega)))

/-! ### The fields of shifted bits -/

namespace FrameView

/-- The view after identifier bits. -/
def afterIdentifier (v : FrameView) (bits : List Bit) : FrameView :=
  { v with
    index := v.index + bits.length, identifier := bits.foldl shiftIn v.identifier, crc := crcFeedAll v.crc bits }

/-- The view after DLC bits. -/
def afterDlc (v : FrameView) (bits : List Bit) : FrameView :=
  { v with index := v.index + bits.length, dlc := bits.foldl shiftIn v.dlc, crc := crcFeedAll v.crc bits }

/-- The view after bits of data byte `k`. -/
def afterData (v : FrameView) (k : Fin 8) (bits : List Bit) : FrameView :=
  { v with
    index := v.index + bits.length, data := v.data.set k (bits.foldl shiftIn (v.data.get k))
    crc := crcFeedAll v.crc bits }

/-- The view after CRC bits. -/
def afterCrc15 (v : FrameView) (bits : List Bit) : FrameView :=
  { v with index := v.index + bits.length, crcRx := bits.foldl shiftIn v.crcRx, crc := crcFeedAll v.crc bits }

end FrameView

section
variable {v : FrameView} (bits : List Bit)

theorem receives_identifier (hst : v.state = .identifier) (hlen : v.index + bits.length ≤ 11) :
    Receives bits v (v.afterIdentifier bits) := by
  refine Receives.field (after := v.afterIdentifier) bits fun pre b hpre => ?_
  simpa [FrameView.afterIdentifier, crcFeedAll, Nat.add_assoc] using
    consumes_identifierId (v := v.afterIdentifier pre) (b := b) hst (show v.index + pre.length ≤ 10 by omega)

theorem receives_extIdentifier (hst : v.state = .extIdentifier) (hlen : v.index + bits.length ≤ 18) :
    Receives bits v (v.afterIdentifier bits) := by
  refine Receives.field (after := v.afterIdentifier) bits fun pre b hpre => ?_
  simpa [FrameView.afterIdentifier, crcFeedAll, Nat.add_assoc] using
    consumes_extIdentifierId (v := v.afterIdentifier pre) (b := b) hst (show v.index + pre.length ≤ 17 by omega)

theorem receives_dlc (hst : v.state = .control) (hi : v.index = 1) (hlen : bits.length ≤ 3) :
    Receives bits v (v.afterDlc bits) := by
  refine Receives.field (after := v.afterDlc) bits fun pre b hpre => ?_
  simpa [FrameView.afterDlc, crcFeedAll, Nat.add_assoc] using
    consumes_controlDlc (v := v.afterDlc pre) (b := b) hst (show 1 ≤ v.index + pre.length by omega)
      (show v.index + pre.length ≤ 3 by omega)

theorem receives_crc15 (hst : v.state = .crc15) (hlen : v.index + bits.length ≤ 14) :
    Receives bits v (v.afterCrc15 bits) := by
  refine Receives.field (after := v.afterCrc15) bits fun pre b hpre => ?_
  simpa [FrameView.afterCrc15, crcFeedAll, Nat.add_assoc] using
    consumes_crc15Bits (v := v.afterCrc15 pre) (b := b) hst (show v.index + pre.length ≤ 13 by omega)

theorem DataBuffer.set_get_self (d : DataBuffer) (k : Fin 8) : d.set k (d.get k) = d := by
  fin_cases k <;> rfl

theorem DataBuffer.set_set_same (d : DataBuffer) (k : Fin 8) (x y : BitVec 8) : (d.set k x).set k y = d.set k y := by
  fin_cases k <;> rfl

theorem FrameView.afterData_nil (v : FrameView) (k : Fin 8) : v.afterData k [] = v := by
  simp [afterData, DataBuffer.set_get_self, crcFeedAll]

theorem FrameView.AtDataBit.afterData {k : Fin 8} (h : v.AtDataBit k 0) (hlen : bits.length ≤ 7) :
    (v.afterData k bits).AtDataBit k bits.length where
  state := h.state
  index := congrArg (· + bits.length) h.index
  bit := by omega
  declared := h.declared
  length := h.length

theorem receives_data {k : Fin 8} (h : v.AtDataBit k 0) (hlen : bits.length ≤ 7) :
    Receives bits v (v.afterData k bits) := by
  conv => arg 2; rw [← v.afterData_nil k]
  refine Receives.field (after := v.afterData k) bits fun pre b hpre => ?_
  simpa [FrameView.afterData, crcFeedAll, Nat.add_assoc, DataBuffer.get_set_same, DataBuffer.set_set_same] using
    consumes_data_within (b := b) (h.afterData pre (by omega)) (by omega)

end

theorem receives_endOfFrame_stay {v : FrameView} (m : Nat) (hst : v.state = .endOfFrame) (hlen : v.index + m ≤ 6) :
    Receives (List.replicate m true) v { v with index := v.index + m } := by
  induction m generalizing v with
  | zero => exact .nil v
  | succ m ih =>
    have hrest := ih (v := { v with index := v.index + 1 }) hst (by show v.index + 1 + m ≤ 6; omega)
    refine .cons (consumes_endOfFrame_stay hst (by omega)) ?_
    simpa [Nat.add_assoc, Nat.add_comm 1] using hrest

/-! ### The fields of a frame -/

section
variable {v : FrameView}

theorem receives_control (hst : v.state = .control) (hi : v.index = 0) (hdlc : v.dlc = 0) (dlc : BitVec 4) :
    Receives (false :: msbFirst dlc) v
      { v with
        state := if clampLength dlc = 0 ∨ v.isData = false then .crc15 else .data
        index := 0, dlc := dlc, dataLen := clampLength dlc, crc := crcFeedAll v.crc (false :: msbFirst dlc)
        report := v.report ++ [(.control, dlc.setWidth 64, 0)] } := by
  have hlen := length_msbFirst (dlc.extractLsb' 1 3)
  have hbits := ((Receives.single (consumes_controlR0_dominant hst hi)).append
    (receives_dlc (msbFirst (dlc.extractLsb' 1 3)) hst rfl hlen.le)).append
    (.single (consumes_controlDlcLast (b := dlc.getLsbD 0) hst (congrArg (1 + ·) hlen)))
  rw [msbFirst_succ]
  simpa only [List.cons_append, List.nil_append, FrameView.afterDlc, hdlc, shiftIn_foldl_upper, crcFeedAll,
    List.foldl_cons, List.foldl_append, List.foldl_nil] using hbits

/-- The CRC sequence of a frame is the accumulator itself, so it leaves no residue. -/
theorem receives_crc (hst : v.state = .crc15) (hi : v.index = 0) (hrx : v.crcRx = 0) :
    Receives (msbFirst v.crc) v
      { v with
        state := .crcDelimiter, index := 0, crcRx := v.crc, crc := 0
        report := v.report ++ [(.crc, v.crc.setWidth 64, 0)] } := by
  have hresidue := crcFeedAll_msbFirst_self v.crc
  rw [msbFirst_succ, crcFeedAll_append] at hresidue
  have hlen := length_msbFirst (v.crc.extractLsb' 1 14)
  have hbits := (receives_crc15 (msbFirst (v.crc.extractLsb' 1 14)) hst (by omega)).append
    (.single (consumes_crc15Last (b := v.crc.getLsbD 0) hst
      (by rw [FrameView.afterCrc15, hlen, hi]) hresidue))
  conv => arg 1; rw [msbFirst_succ]
  simpa only [FrameView.afterCrc15, hrx, shiftIn_foldl_upper] using hbits

theorem receives_byte {k : Fin 8} (h : v.AtDataBit k 0) (hget : v.data.get k = 0) (byte : BitVec 8) :
    Receives (msbFirst byte) v
      { v with
        state := if k.val + 1 = v.dataLen.toNat then .crc15 else .data
        index := if k.val + 1 = v.dataLen.toNat then 0 else v.index + 8
        data := v.data.set k byte, crc := crcFeedAll v.crc (msbFirst byte)
        report := v.report ++ [(.dataByte, byte.setWidth 64, BitVec.ofNat 64 k.val)] } := by
  have hlen := length_msbFirst (byte.extractLsb' 1 7)
  have hat := h.afterData (msbFirst (byte.extractLsb' 1 7)) hlen.le
  rw [hlen] at hat
  have hbits := (receives_data (msbFirst (byte.extractLsb' 1 7)) h hlen.le).append
    (.single (consumes_data_eighth (b := byte.getLsbD 0) hat))
  rw [msbFirst_succ]
  simpa only [FrameView.afterData, hget, hlen, shiftIn_foldl_upper, crcFeedAll, List.foldl_cons, List.foldl_append,
    List.foldl_nil, DataBuffer.get_set_same, DataBuffer.set_set_same, Nat.add_assoc] using hbits

/-- Data bytes `k` to the last, each at its place in the buffer and reported with its number. -/
theorem receives_payload (bytes : List (BitVec 8)) (hne : bytes ≠ []) (k : Nat) (hst : v.state = .data)
    (hi : v.index = 8 * k) (hlast : k + bytes.length = v.dataLen.toNat) (hlen : v.dataLen.toNat ≤ 8)
    (hzero : ∀ j : Fin 8, k ≤ j.val → v.data.get j = 0) :
    ∃ data, Receives (bytes.flatMap msbFirst) v
      { v with
        state := .crc15, index := 0, data := data, crc := crcFeedAll v.crc (bytes.flatMap msbFirst)
        report := v.report ++ bytes.mapIdx fun i x => (.dataByte, x.setWidth 64, BitVec.ofNat 64 (k + i)) } := by
  induction bytes generalizing k v with
  | nil => exact absurd rfl hne
  | cons byte rest ih =>
    rw [List.length_cons] at hlast
    have hat : v.AtDataBit ⟨k, by omega⟩ 0 := ⟨hst, hi, by decide, by show k < _; omega, hlen⟩
    have hbyte := receives_byte hat (hzero _ le_rfl) byte
    by_cases hrest : rest = []
    · subst hrest
      rw [if_pos (by simpa using hlast), if_pos (by simpa using hlast)] at hbyte
      exact ⟨_, by simpa using hbyte⟩
    · have hmore : rest.length ≠ 0 := by simpa using hrest
      rw [if_neg (by show k + 1 ≠ _; omega), if_neg (by show k + 1 ≠ _; omega)] at hbyte
      obtain ⟨data, hdata⟩ := ih hrest (k + 1) (v := { v with
        state := .data, index := v.index + 8, data := v.data.set ⟨k, by omega⟩ byte
        crc := crcFeedAll v.crc (msbFirst byte)
        report := v.report ++ [(.dataByte, byte.setWidth 64, BitVec.ofNat 64 k)] }) rfl
        (by show v.index + 8 = _; omega) (by show k + 1 + rest.length = v.dataLen.toNat; omega) hlen
        (fun j hj => (DataBuffer.get_set_other _ _ (by rintro rfl; simp at hj)).trans (hzero j (by omega)))
      refine ⟨data, ?_⟩
      simpa [crcFeedAll, Nat.add_assoc, Nat.add_comm 1] using hbyte.append hdata

end
end Sys2Proof.Machine

namespace Sys2Proof.Machine

/-! ### The parts of an encoded frame -/

/-- The logical bits after SOF up to the frame format's last header bit (R89, R90). -/
def FrameSpec.header (f : FrameSpec) : List Bit :=
  if f.ext then
    msbFirst (f.id.extractLsb' 18 11) ++ [true, true] ++ msbFirst (f.id.extractLsb' 0 18) ++ [f.remote, false]
  else msbFirst (f.id.extractLsb' 0 11) ++ [f.remote, false]

/-- A valid frame gives all the data bytes its length field declares, and none if it is remote. -/
theorem FrameSpec.Valid.payload_length {f : FrameSpec} (hf : f.Valid) :
    f.payload.length = if f.remote then 0 else (clampLength f.dlc).toNat := by
  obtain ⟨hdlc, hlen, -⟩ := hf
  rw [hlen, clampLength_toNat, Nat.min_eq_left hdlc]

theorem FrameSpec.Valid.body_eq {f : FrameSpec} (hf : f.Valid) :
    f.body = false :: (f.header ++ (false :: msbFirst f.dlc) ++ f.payload.flatMap msbFirst) := by
  simp [FrameSpec.body, ← hf.payload_length, FrameSpec.header]

/-! ### The header -/

/-- The register holds an eleven-bit identifier once its bits are shifted in, and reports it (R183, R185). -/
theorem base_identifier_received {id : BitVec 29} (hid : id.toNat < 2 ^ 11) :
    (msbFirst (id.extractLsb' 0 11)).foldl shiftIn (0 : BitVec 29) = id := by
  apply BitVec.eq_of_toNat_eq
  rw [toNat_foldl_shiftIn (by decide), BitVec.extractLsb'_toNat, Nat.shiftRight_zero, Nat.mod_eq_of_lt hid]
  exact (congrArg (· % 2 ^ 29) (Nat.zero_add _)).trans (Nat.mod_eq_of_lt id.isLt)

theorem base_identifier_payload {id : BitVec 29} (hid : id.toNat < 2 ^ 11) :
    (id.extractLsb' 0 11).setWidth 64 = id.setWidth 64 := by
  rw [extractLsb'_eq_ofNat, Nat.mod_eq_of_lt hid, setWidth_eq_ofNat]

/-- The register holds a 29-bit identifier once its two parts are shifted in (R183, R186). -/
theorem extended_identifier_received (id : BitVec 29) :
    (msbFirst (id.extractLsb' 0 18)).foldl shiftIn ((msbFirst (id.extractLsb' 18 11)).foldl shiftIn (0 : BitVec 29)) =
      id := by
  have hlt := id.isLt
  apply BitVec.eq_of_toNat_eq
  have hzero : (0 : BitVec 29).toNat = 0 := rfl
  rw [toNat_foldl_shiftIn (by decide), toNat_foldl_shiftIn (by decide), BitVec.extractLsb'_toNat,
    BitVec.extractLsb'_toNat, Nat.shiftRight_zero, Nat.shiftRight_eq_div_pow, hzero]
  omega

theorem receives_header {v : FrameView} (f : FrameSpec) (hf : f.Valid) (hst : v.state = .identifier) (hi : v.index = 0)
    (hid : v.identifier = 0) :
    Receives f.header v
      { v with
        state := .control, index := 0, isData := !f.remote, identifier := f.id, crc := crcFeedAll v.crc f.header
        report := v.report ++
          [(if f.ext then .extendedIdentifier else .standardIdentifier, f.id.setWidth 64,
            flagPayload (!f.remote))] } := by
  rw [FrameSpec.header]
  cases hext : f.ext with
  | false =>
    have hbase := hf.2.2 hext
    have hvalue := hid ▸ base_identifier_received hbase
    have hlen := length_msbFirst (f.id.extractLsb' 0 11)
    have hbits := ((receives_identifier (msbFirst (f.id.extractLsb' 0 11)) hst (by omega)).append
      (.single (consumes_identifierRtr (b := f.remote) hst (by rw [FrameView.afterIdentifier, hlen, hi])))).append
      (.single (consumes_identifierIde_dominant hst rfl))
    simpa [FrameView.afterIdentifier, hvalue, base_identifier_payload hbase, crcFeedAll]
      using hbits
  | true =>
    have hvalue := hid ▸ extended_identifier_received f.id
    have hlen := length_msbFirst (f.id.extractLsb' 18 11)
    have hlen' := length_msbFirst (f.id.extractLsb' 0 18)
    have hbits := (((((receives_identifier (msbFirst (f.id.extractLsb' 18 11)) hst (by omega)).append
      (.single (consumes_identifierRtr (b := true) hst (by rw [FrameView.afterIdentifier, hlen, hi])))).append
      (.single (consumes_identifierIde_recessive hst rfl))).append
      (receives_extIdentifier (msbFirst (f.id.extractLsb' 0 18)) rfl (by rw [hlen']))).append
      (.single (consumes_extIdentifierRtr (b := f.remote) rfl (by rw [FrameView.afterIdentifier, hlen'])))).append
      (.single (consumes_extIdentifierR1_dominant rfl rfl))
    simpa [FrameView.afterIdentifier, hvalue, crcFeedAll] using hbits

/-! ### The data field -/

theorem receives_dataField {v : FrameView} (f : FrameSpec) (hf : f.Valid)
    (hst : v.state = if clampLength f.dlc = 0 ∨ (!f.remote) = false then .crc15 else .data) (hi : v.index = 0)
    (hlen : v.dataLen = clampLength f.dlc) (hdata : v.data = .zero) :
    ∃ data, Receives (f.payload.flatMap msbFirst) v
      { v with
        state := .crc15, index := 0, data := data, crc := crcFeedAll v.crc (f.payload.flatMap msbFirst)
        report := v.report ++ f.payload.mapIdx fun i x => (.dataByte, x.setWidth 64, BitVec.ofNat 64 i) } := by
  have hpayload := hf.payload_length
  by_cases hnone : clampLength f.dlc = 0 ∨ (!f.remote) = false
  · rw [if_pos hnone] at hst
    have hempty : f.payload = [] := by
      rw [← List.length_eq_zero_iff, hpayload]
      rcases hnone with h | h <;> simp_all
    refine ⟨v.data, ?_⟩
    simpa [hempty, crcFeedAll, ← hst, ← hi] using Receives.nil v
  · obtain ⟨hdlc, hremote⟩ := not_or.1 hnone
    rw [if_neg hnone] at hst
    rw [if_neg (by simpa using hremote)] at hpayload
    have hle : (clampLength f.dlc).toNat ≤ 8 := by rw [clampLength_toNat]; exact Nat.min_le_right _ _
    have hne : f.payload ≠ [] := by
      rw [← List.length_pos_iff, hpayload]
      exact Nat.pos_of_ne_zero fun h => hdlc (BitVec.toNat_inj.1 h)
    obtain ⟨data, h⟩ := receives_payload f.payload hne 0 hst hi (by rw [hlen, Nat.zero_add, hpayload])
      (by rw [hlen]; exact hle) (fun j _ => by rw [hdata, DataBuffer.get_zero])
    exact ⟨data, by simpa using h⟩

/-! ### From SOF to the CRC delimiter, and from the ACK slot on -/

/-- The view right after SOF, with what was reported before (R182). -/
def FrameView.afterSof (errCause : Cause) (report : List (RecordKind × BitVec 64 × BitVec 64)) : FrameView where
  state := .identifier
  index := 0
  isData := true
  ackNacked := false
  identifier := 0
  dlc := 0
  dataLen := 0
  crc := 0
  crcRx := 0
  data := .zero
  errCause := errCause
  report := report

/-- The records up to the `Crc` of an error-free frame. -/
def FrameSpec.reportToCrc (f : FrameSpec) : List (RecordKind × BitVec 64 × BitVec 64) :=
  [(if f.ext then .extendedIdentifier else .standardIdentifier, f.id.setWidth 64, flagPayload (!f.remote)),
   (.control, f.dlc.setWidth 64, 0)] ++
  f.payload.mapIdx (fun i v => (.dataByte, v.setWidth 64, BitVec.ofNat 64 i)) ++ [(.crc, f.crc.setWidth 64, 0)]

theorem FrameSpec.report_eq (f : FrameSpec) :
    f.report = f.reportToCrc ++ [(.ack, flagPayload (!f.ack), 0), (.eof, 0, 0)] := by
  simp [FrameSpec.report, FrameSpec.reportToCrc]

/-- The view after the last DLC bit of the frame. -/
def FrameView.afterControl (f : FrameSpec) (errCause : Cause) (report : List (RecordKind × BitVec 64 × BitVec 64)) :
    FrameView :=
  { FrameView.afterSof errCause report with
    state := if clampLength f.dlc = 0 ∨ (!f.remote) = false then .crc15 else .data
    isData := !f.remote, identifier := f.id, dlc := f.dlc, dataLen := clampLength f.dlc
    crc := crcFeedAll (crcFeedAll 0 f.header) (false :: msbFirst f.dlc)
    report := report ++
      [(if f.ext then .extendedIdentifier else .standardIdentifier, f.id.setWidth 64, flagPayload (!f.remote))] ++
      [(.control, f.dlc.setWidth 64, 0)] }

theorem receives_to_control (f : FrameSpec) (hf : f.Valid) (errCause : Cause)
    (report : List (RecordKind × BitVec 64 × BitVec 64)) :
    Receives (f.header ++ (false :: msbFirst f.dlc)) (.afterSof errCause report) (.afterControl f errCause report) :=
  (receives_header (v := .afterSof errCause report) f hf rfl rfl rfl).append (receives_control rfl rfl rfl f.dlc)

/-- The transmitted CRC is the accumulator after SOF, which leaves it at 0, and the rest of the body. -/
theorem FrameSpec.Valid.crc_eq {f : FrameSpec} (hf : f.Valid) :
    f.crc = crcFeedAll (crcFeedAll (crcFeedAll 0 f.header) (false :: msbFirst f.dlc)) (f.payload.flatMap msbFirst) := by
  have hsof : crcFeed 0 false = 0 := rfl
  rw [FrameSpec.crc, hf.body_eq, crcFeedAll_cons, hsof, crcFeedAll_append, crcFeedAll_append]

/-- The logical bits of the stuffed region after SOF take the view to the CRC delimiter. -/
theorem receives_stuffedRegion (f : FrameSpec) (hf : f.Valid) (errCause : Cause)
    (report : List (RecordKind × BitVec 64 × BitVec 64)) :
    ∃ w, Receives (f.header ++ (false :: msbFirst f.dlc) ++ f.payload.flatMap msbFirst ++ msbFirst f.crc)
        (.afterSof errCause report) w ∧
      w.state = .crcDelimiter ∧ w.index = 0 ∧ w.errCause = errCause ∧ w.report = report ++ f.reportToCrc := by
  obtain ⟨data, hdata⟩ := receives_dataField f hf (v := .afterControl f errCause report) rfl rfl rfl rfl
  have hbits := ((receives_to_control f hf errCause report).append hdata).append (receives_crc rfl rfl rfl)
  rw [hf.crc_eq]
  refine ⟨_, hbits, rfl, rfl, rfl, ?_⟩
  rw [FrameSpec.reportToCrc, hf.crc_eq]
  simp [FrameView.afterControl]

theorem receives_tail {v : FrameView} (ack : Bool) (hst : v.state = .ack) (hi : v.index = 0) :
    Receives ([!ack, true] ++ List.replicate 7 true ++ List.replicate 2 true) v
      { v with
        state := .intermission, index := 2, ackNacked := !ack
        report := v.report ++ [(.ack, flagPayload (!ack), 0), (.eof, 0, 0)] } := by
  have hbits := ((((((Receives.single (consumes_ackSlot (b := !ack) hst hi)).append
    (.single (consumes_ackDelimiter_recessive hst rfl))).append
    (receives_endOfFrame_stay 6 rfl le_rfl)).append
    (.single (consumes_endOfFrame_last rfl rfl))).append
    (.single (consumes_intermission_stay rfl (Nat.zero_le 1)))).append
    (.single (consumes_intermission_stay rfl le_rfl)))
  simpa using hbits

end Sys2Proof.Machine

namespace Sys2Proof.Machine

/-! ### Consumed through the De-stuffer -/

section
variable {b : Bit} {v w : FrameView} {s : State}

theorem State.state_ne_of_view (hs : s.view = v) (herr : v.state ≠ .decoderError) : s.state ≠ .decoderError := by
  subst hs
  exact herr

/-- A consumed bit that is not de-stuffed (R161). -/
theorem Consumes.of_inactive (h : Consumes b v w) (hs : s.view = v) (hinactive : s.destuffActive = false) (n : Sample) :
    ∃ t, processBitEvent b n s = .next t ∧ t.view = w ∧ t.tracker = s.tracker := by
  obtain ⟨herr, hforward⟩ := h
  rw [processBitEvent_eq_exec_destuffCase, destuffCase_eq_dsInactive (State.state_ne_of_view hs herr) hinactive]
  exact hforward n s hs

/-- In a run of at most four the active De-stuffer counts the bit and forwards it (R164, R165). -/
theorem processBitEvent_of_short (h : s.Destuffing) (hrun : s.runLength.toNat ≤ 4) (n : Sample) :
    processBitEvent b n s = forward b n (trackRaw b s) := by
  rw [processBitEvent_eq_exec_destuffCase, trackRaw]
  by_cases hb : b = s.lastBit
  · rw [destuffCase_eq_dsSame h (runLength_ne_five hrun) hb, if_pos hb]; rfl
  · rw [destuffCase_eq_dsChange h (runLength_ne_five hrun) hb, if_neg hb]; rfl

/-- A consumed bit in a run of at most four. -/
theorem Consumes.of_short (h : Consumes b v w) (hs : s.view = v) (hactive : s.destuffActive = true)
    (hrun : s.runLength.toNat ≤ 4) (n : Sample) :
    ∃ t, processBitEvent b n s = .next t ∧ t.view = w ∧ t.tracker = (trackRaw b s).tracker := by
  obtain ⟨herr, hforward⟩ := h
  rw [processBitEvent_of_short ⟨State.state_ne_of_view hs herr, hactive⟩ hrun]
  exact hforward n _ ((trackRaw_view b s).trans hs)

/-- A stuff bit is not seen by the handlers (R162). -/
theorem processBitEvent_of_stuff_bit (h : s.Destuffing) (hrun : s.runLength = 5) (n : Sample) :
    ∃ t, processBitEvent (!s.lastBit) n s = .next t ∧ t.view = s.view ∧ t.tracker = (true, !s.lastBit, 1) := by
  rw [processBitEvent_eq_exec_destuffCase, destuffCase_eq_dsStuffBit h hrun (by simp), exec_dsStuffBit]
  refine ⟨_, rfl, rfl, ?_⟩
  simp only [State.tracker, h.active]

/-! ### Received through the De-stuffer -/

/-- The events, run from `s`, take the view to `w`, with de-stuffing still active in a run of at most four. -/
def State.DestuffsTo (s : State) (events : List (Bit × Sample)) (w : FrameView) : Prop :=
  ∃ t, processBitEvents events s = .next t ∧ t.view = w ∧ t.destuffActive = true ∧ t.runLength.toNat ≤ 4

theorem State.DestuffsTo.cons {n : Sample} {t : State} {events : List (Bit × Sample)}
    (hbit : processBitEvent b n s = .next t) (h : t.DestuffsTo events w) : s.DestuffsTo ((b, n) :: events) w := by
  obtain ⟨u, hu, hrest⟩ := h
  exact ⟨u, by rw [processBitEvents_cons, hbit, andThen_next, hu], hrest⟩

/-- What holds from every run of at most four holds from every run of at most five: the stuff bit then comes first. -/
theorem destuffsTo_of_le_five {bits : List Bit} (herr : v.state ≠ .decoderError)
    (hshort : ∀ (t : State) (events : List (Bit × Sample)), t.view = v → t.destuffActive = true →
      t.runLength.toNat ≤ 4 → events.map Prod.fst = stuffFrom t.runLength.toNat t.lastBit bits → t.DestuffsTo events w)
    {events : List (Bit × Sample)} (hs : s.view = v) (hactive : s.destuffActive = true) (hrun : s.runLength.toNat ≤ 5)
    (hevents : events.map Prod.fst = stuffFrom s.runLength.toNat s.lastBit bits) : s.DestuffsTo events w := by
  by_cases hfive : s.runLength = 5
  · have hfiveNat : s.runLength.toNat = 5 := by rw [hfive]; rfl
    rw [hfiveNat, stuffFrom_five] at hevents
    obtain ⟨⟨_, n⟩, rest, rfl, rfl, hrest⟩ := List.map_eq_cons_iff.1 hevents
    obtain ⟨t, ht, hview, htracker⟩ := processBitEvent_of_stuff_bit ⟨State.state_ne_of_view hs herr, hactive⟩ hfive n
    simp only [State.tracker, Prod.mk.injEq] at htracker
    obtain ⟨hactive', hlast, hrun'⟩ := htracker
    exact .cons ht (hshort t rest (hview.trans hs) hactive' (by rw [hrun']; decide) (by rw [hrun', hlast]; exact hrest))
  · have hne : s.runLength.toNat ≠ 5 := fun h5 => hfive (BitVec.eq_of_toNat_eq h5)
    exact hshort s events hs hactive (by omega) hevents

/-- What the handlers receive of logical bits is what the machine makes of the stuffed bits (R169). -/
theorem Receives.of_stuffed_short {bits : List Bit} (h : Receives bits v w) (hw : w.state ≠ .decoderError)
    (events : List (Bit × Sample)) (hs : s.view = v) (hactive : s.destuffActive = true) (hrun : s.runLength.toNat ≤ 4)
    (hevents : events.map Prod.fst = stuffFrom s.runLength.toNat s.lastBit bits) : s.DestuffsTo events w := by
  induction h generalizing s events with
  | nil v =>
    rw [stuffFrom_nil_of_short hrun, List.map_eq_nil_iff] at hevents
    subst hevents
    exact ⟨s, rfl, hs, hactive, hrun⟩
  | @cons b rest v u w hb hrest ih =>
    rw [stuffFrom_cons_of_short hrun] at hevents
    obtain ⟨⟨_, n⟩, more, rfl, rfl, hmore⟩ := List.map_eq_cons_iff.1 hevents
    obtain ⟨t, ht, hview, htracker⟩ := hb.of_short hs hactive hrun n
    simp only [State.tracker, Prod.mk.injEq, trackRaw_destuffActive, trackRaw_lastBit] at htracker
    obtain ⟨hactive', hlast, hrun'⟩ := htracker
    have hrunNat := (congrArg BitVec.toNat hrun').trans (trackRaw_runLength_toNat (by omega) _)
    refine .cons ht (destuffsTo_of_le_five ?_ (fun t' events' => ih hw events') hview (hactive'.trans hactive) ?_ ?_)
    · cases hrest with
      | nil => exact hw
      | cons hb' _ => exact hb'.1
    · rw [hrunNat]; split_ifs <;> omega
    · rw [hrunNat, hlast]; exact hmore

/-- Past the stuffed region the machine receives the bits as they are. -/
theorem Receives.of_raw {bits : List Bit} (h : Receives bits v w) (events : List (Bit × Sample)) (hs : s.view = v)
    (hinactive : s.destuffActive = false) (hevents : events.map Prod.fst = bits) :
    ∃ t, processBitEvents events s = .next t ∧ t.view = w ∧ t.destuffActive = false := by
  induction h generalizing s events with
  | nil v =>
    rw [List.map_eq_nil_iff] at hevents
    subst hevents
    exact ⟨s, rfl, hs, hinactive⟩
  | cons hb _ ih =>
    obtain ⟨⟨_, n⟩, more, rfl, rfl, hmore⟩ := List.map_eq_cons_iff.1 hevents
    obtain ⟨t, ht, hview, htracker⟩ := hb.of_inactive hs hinactive n
    obtain ⟨u, hu, hrest⟩ := ih more hview ((congrArg Prod.fst htracker).trans hinactive) hmore
    exact ⟨u, by rw [processBitEvents_cons, ht, andThen_next, hu], hrest⟩

/-! ### The bits between the fields -/

/-- In IDLE outside a frame: what the invariant says of IDLE. -/
structure State.Idle (s : State) : Prop where
  state : s.state = .idle
  index : s.fieldBitIndex.toNat = 0
  inactive : s.destuffActive = false

theorem State.Inv.idle (h : s.Inv) (hst : s.state = .idle) : s.Idle where
  state := hst
  index := by
    have hindex := h.position.1
    rw [hst] at hindex
    exact Nat.lt_one_iff.1 hindex
  inactive := by rw [h.destuff, hst]; rfl

/-- In IDLE every bit reaches the handler of IDLE. -/
theorem State.Idle.processBitEvent_eq (h : s.Idle) (n : Sample) :
    processBitEvent b n s = exec (.idle b n) (feedForward b s) := by
  have herr : s.state ≠ .decoderError := by simp [h.state]
  rw [processBitEvent_eq_exec_destuffCase, destuffCase_eq_dsInactive herr h.inactive, exec_dsInactive,
    forward_eq_exec h.state selects_idle (Nat.zero_le _) h.index.le]

/-- Recessive bits in IDLE change nothing (R182). -/
theorem State.Idle.processBitEvents_recessive (h : s.Idle) (events : List (Bit × Sample))
    (hbits : ∀ e ∈ events, e.1 = true) : processBitEvents events s = .next s := by
  induction events with
  | nil => rfl
  | cons e rest ih =>
    obtain ⟨hb, hrest⟩ := List.forall_mem_cons.1 hbits
    obtain ⟨_, n⟩ := e
    subst hb
    have hfeed : feedForward true s = s := by simp [feedForward, h.state, crcIsFed]
    rw [processBitEvents_cons, h.processBitEvent_eq, exec_idle_recessive, hfeed, andThen_next, ih hrest]

/-- Start-Of-Frame (R182). -/
theorem State.Idle.processBitEvent_sof (h : s.Idle) (n : Sample) :
    ∃ t, processBitEvent false n s = .next t ∧ t.view = .afterSof s.errCause s.view.report ∧
      t.tracker = (true, false, 1) := by
  refine ⟨_, (h.processBitEvent_eq n).trans (exec_idle_dominant n _), ?_, rfl⟩
  simp [State.view, FrameView.afterSof]

/-- A recessive CRC delimiter is the last bit that can be a stuffed one, and ends de-stuffing (R195). -/
theorem processBitEvent_crcDelimiter (hst : s.state = .crcDelimiter) (hi : s.fieldBitIndex.toNat = 0)
    (hactive : s.destuffActive = true) (hrun : s.runLength.toNat ≤ 4) (n : Sample) :
    ∃ t, processBitEvent true n s = .next t ∧ t.view = { s.view with state := .ack, index := 0 } ∧
      t.destuffActive = false := by
  have htracked : (trackRaw true s).fieldBitIndex.toNat = 0 := by rw [trackRaw_fieldBitIndex, hi]
  rw [processBitEvent_of_short ⟨by simp [hst], hactive⟩ hrun,
    forward_eq_exec ((trackRaw_state true s).trans hst) selects_crcDelimiter (Nat.zero_le _) htracked.le]
  refine ⟨_, exec_crcDelimiter_recessive n _, ?_, rfl⟩
  simp [State.view, hst, crcIsFed]

/-- The third recessive intermission bit reports the frame's duration and stuff bits, and returns to IDLE (R199). -/
theorem processBitEvent_last_intermission (hst : s.state = .intermission) (hi : s.fieldBitIndex.toNat = 2)
    (hinactive : s.destuffActive = false) (n : Sample) :
    ∃ t p q, processBitEvent true n s = .next t ∧ t.state = .idle ∧ t.errCause = s.errCause ∧
      t.view.report = s.view.report ++ [(.intermission, p, q)] := by
  rw [processBitEvent_eq_exec_destuffCase, destuffCase_eq_dsInactive (by simp [hst]) hinactive, exec_dsInactive,
    forward_eq_exec hst selects_intermission (Nat.zero_le _) hi.le]
  exact ⟨_, n - s.sofSample, s.stuffBitCount, exec_intermission_last n _ (by rw [feedForward_fieldBitIndex, hi]), rfl,
    by simp, by simp [State.view]⟩

end
end Sys2Proof.Machine

namespace Sys2Proof.Machine

/-! ### The whole frame -/

/-- The logical bits of the stuffed region after SOF. -/
def FrameSpec.stuffedBits (f : FrameSpec) : List Bit :=
  f.header ++ (false :: msbFirst f.dlc) ++ f.payload.flatMap msbFirst ++ msbFirst f.crc

/-- The bits from the ACK slot to the last intermission bit but one. -/
def FrameSpec.afterDelimiter (f : FrameSpec) : List Bit :=
  [!f.ack, true] ++ List.replicate 7 true ++ List.replicate 2 true

/-- SOF, the stuffed region, the CRC delimiter, the bits after it, and the last intermission bit. -/
theorem FrameSpec.Valid.encode_eq {f : FrameSpec} (hf : f.Valid) :
    f.encode = [false] ++ stuffFrom 1 false f.stuffedBits ++ [true] ++ f.afterDelimiter ++ [true] := by
  have hstuffed : f.stuffed = [false] ++ stuffFrom 1 false f.stuffedBits := by
    rw [FrameSpec.stuffed, hf.body_eq]
    rfl
  have htail : f.tail = [true] ++ f.afterDelimiter ++ [true] := rfl
  rw [FrameSpec.encode, hstuffed, htail]
  simp only [List.append_assoc]

theorem processBitEvents_singleton (b : Bit) (n : Sample) (s : State) :
    processBitEvents [(b, n)] s = processBitEvent b n s := by
  rw [processBitEvents_cons]
  cases processBitEvent b n s <;> rfl

theorem processBitEvents_append_eq_next {xs ys : List (Bit × Sample)} {s t u : State}
    (hx : processBitEvents xs s = .next t) (hy : processBitEvents ys t = .next u) :
    processBitEvents (xs ++ ys) s = .next u := by
  rw [processBitEvents_append, hx, andThen_next, hy]

/-- After the CRC delimiter: the ACK slot comes next, de-stuffing has ended (R195). -/
structure State.AtAckSlot (s : State) : Prop where
  state : s.state = .ack
  index : s.fieldBitIndex.toNat = 0
  inactive : s.destuffActive = false

/-- From SOF to the CRC delimiter: identifier, control, data and CRC are reported. -/
theorem processBitEvents_to_ack {f : FrameSpec} (hf : f.Valid) {s : State} (h : s.Idle) {events : List (Bit × Sample)}
    (hevents : events.map Prod.fst = [false] ++ stuffFrom 1 false f.stuffedBits ++ [true]) :
    ∃ t, processBitEvents events s = .next t ∧ t.AtAckSlot ∧ t.errCause = s.errCause ∧
      t.view.report = s.view.report ++ f.reportToCrc := by
  obtain ⟨events, delimiter, rfl, hevents, hdelimiter⟩ := List.map_eq_append_iff.1 hevents
  obtain ⟨sof, stuffed, rfl, hsof, hstuffed⟩ := List.map_eq_append_iff.1 hevents
  obtain ⟨⟨_, n⟩, rfl, rfl⟩ := List.map_eq_singleton_iff.1 hsof
  obtain ⟨⟨_, m⟩, rfl, rfl⟩ := List.map_eq_singleton_iff.1 hdelimiter
  obtain ⟨r, hr, hrview, hrtracker⟩ := h.processBitEvent_sof n
  simp only [State.tracker, Prod.mk.injEq] at hrtracker
  obtain ⟨hactive, hlast, hrun⟩ := hrtracker
  obtain ⟨w, hregion, hstate, hindex, hcause, hreport⟩ := receives_stuffedRegion f hf s.errCause s.view.report
  obtain ⟨u, hu, rfl, huactive, hurun⟩ := hregion.of_stuffed_short (by simp [hstate]) stuffed hrview hactive
    (by rw [hrun]; decide) (by rw [hrun, hlast]; exact hstuffed)
  obtain ⟨t, ht, htview, htinactive⟩ := processBitEvent_crcDelimiter hstate hindex huactive hurun m
  refine ⟨t, ?_, ⟨congrArg FrameView.state htview, congrArg FrameView.index htview, htinactive⟩,
    (congrArg FrameView.errCause htview).trans hcause, (congrArg FrameView.report htview).trans hreport⟩
  exact processBitEvents_append_eq_next
    (processBitEvents_append_eq_next ((processBitEvents_singleton _ _ _).trans hr) hu)
    ((processBitEvents_singleton _ _ _).trans ht)

/-- From the ACK slot to the last intermission bit: acknowledgement, `Eof` and `Intermission` are reported. -/
theorem processBitEvents_from_ack (f : FrameSpec) {s : State} (h : s.AtAckSlot) {events : List (Bit × Sample)}
    (hevents : events.map Prod.fst = f.afterDelimiter ++ [true]) :
    ∃ t p q, processBitEvents events s = .next t ∧ t.state = .idle ∧ t.errCause = s.errCause ∧
      t.view.report = s.view.report ++ [(.ack, flagPayload (!f.ack), 0), (.eof, 0, 0)] ++ [(.intermission, p, q)] := by
  obtain ⟨before, last, rfl, hbefore, hlast⟩ := List.map_eq_append_iff.1 hevents
  obtain ⟨⟨_, n⟩, rfl, rfl⟩ := List.map_eq_singleton_iff.1 hlast
  obtain ⟨u, hu, huview, huinactive⟩ :=
    (receives_tail (v := s.view) f.ack h.state h.index).of_raw before rfl h.inactive hbefore
  obtain ⟨t, p, q, ht, htstate, htcause, htreport⟩ := processBitEvent_last_intermission
    (congrArg FrameView.state huview) (congrArg FrameView.index huview) huinactive n
  refine ⟨t, p, q, ?_, htstate, htcause.trans (congrArg FrameView.errCause huview), ?_⟩
  · exact processBitEvents_append_eq_next hu ((processBitEvents_singleton _ _ _).trans ht)
  · rw [htreport, huview]

/-- What a state reports beyond an earlier one, from their views and that REC is append-only. -/
theorem exists_new_records {s t : State} (hprefix : s.recOut <+: t.recOut)
    {report : List (RecordKind × BitVec 64 × BitVec 64)} {kind : RecordKind} {p q : BitVec 64}
    (hreport : t.view.report = s.view.report ++ (report ++ [(kind, p, q)])) :
    ∃ new last, t.recOut = s.recOut ++ new ++ [last] ∧ new.map (fun r => (r.kind, r.p0, r.p1)) = report ∧
      last.kind = kind := by
  obtain ⟨added, hadded⟩ := hprefix
  simp only [State.view, ← hadded, List.map_append, List.append_cancel_left_eq] at hreport
  obtain ⟨new, lasts, rfl, hnew, hlasts⟩ := List.map_eq_append_iff.1 hreport
  obtain ⟨last, rfl, hlast⟩ := List.map_eq_singleton_iff.1 hlasts
  exact ⟨new, last, by rw [← hadded, List.append_assoc], hnew, congrArg Prod.fst hlast⟩

/-- An encoded frame taken bit by bit from IDLE is reported exactly. -/
theorem processBitEvents_encode {f : FrameSpec} (hf : f.Valid) {s : State} (h : s.Idle) {events : List (Bit × Sample)}
    (hevents : events.map Prod.fst = f.encode) :
    ∃ t, processBitEvents events s = .next t ∧ t.state = .idle ∧ t.errCause = s.errCause ∧
      ∃ new last, t.recOut = s.recOut ++ new ++ [last] ∧
        new.map (fun r => (r.kind, r.p0, r.p1)) = f.report ∧ last.kind = .intermission := by
  rw [hf.encode_eq, List.append_assoc] at hevents
  obtain ⟨toAck, fromAck, rfl, hto, hfrom⟩ := List.map_eq_append_iff.1 hevents
  obtain ⟨u, hu, huack, hucause, hureport⟩ := processBitEvents_to_ack hf h hto
  obtain ⟨t, p, q, ht, htstate, htcause, htreport⟩ := processBitEvents_from_ack f huack hfrom
  have hrun := processBitEvents_append_eq_next hu ht
  have hreport : t.view.report = s.view.report ++ (f.report ++ [(.intermission, p, q)]) := by
    rw [htreport, hureport, f.report_eq]
    simp only [List.append_assoc]
  exact ⟨t, hrun, htstate, htcause.trans hucause, exists_new_records (frame_processBitEvents hrun).recOut hreport⟩

/-! ### Presented by commands -/

theorem eventsOf_map_fst (S t : Nat) (bits : List Bit) : (eventsOf S t bits).map Prod.fst = bits := by
  induction bits generalizing t with
  | nil => rfl
  | cons b rest ih => rw [eventsOf, List.map_cons, ih]

theorem fst_mem_of_mem_eventsOf {S t : Nat} {bits : List Bit} {e : Bit × Sample} (h : e ∈ eventsOf S t bits) :
    e.1 ∈ bits := by
  rw [← eventsOf_map_fst S t bits]
  exact List.mem_map_of_mem h

/-- The first run of a bit string has the value of its first bit. -/
theorem runsOf_cons_eq (b : Bit) (rest : List Bit) : ∃ m more, runsOf (b :: rest) = (b, m) :: more := by
  rw [runsOf]
  split
  · split_ifs with hv
    · subst hv
      exact ⟨_, _, rfl⟩
    · exact ⟨_, _, rfl⟩
  · exact ⟨_, _, rfl⟩

/-- The session once it is armed, everything else as it is. -/
theorem State.armedSession_of_run {s : State} (hrun : s.mode = .run) :
    ({ s with armed := true } : State).ArmedSession s.samplesPerBit s.cfgInverted := ⟨hrun, rfl, rfl, rfl⟩

/-- A recessive segment is extracted whether or not the session is armed, and arms it (R140, R144). -/
theorem extract_recessive {l : Level} {s : State} (hrun : s.mode = .run) (hS : s.samplesPerBit ≠ 0)
    (hv : bitValue l s.cfgInverted = true) (a e : Sample) :
    extract l a e s = extract l a e { s with armed := true } := by
  rw [extract_of_armedSession (State.armedSession_of_run hrun) hS, extract, if_neg (by simp [hv]), if_neg hS]

/-- The SEG of a recessive run, executed in a session that it may be the first segment of. -/
theorem exec_asmSeg_recessive {s : State} (hrun : s.mode = .run) (hS : s.samplesPerBit ≠ 0) {a e : Sample}
    (hae : a.toNat < e.toNat) :
    exec (decodeCommand (asmSeg (true ^^ s.cfgInverted) a e)) s =
      exec (decodeCommand (asmSeg (true ^^ s.cfgInverted) a e)) { s with armed := true } := by
  rw [decodeCommand_asmSeg]
  calc execSeg (true ^^ s.cfgInverted) a e s
      = extract (true ^^ s.cfgInverted) a e s := execSeg_of_run hrun _ hae
    _ = extract (true ^^ s.cfgInverted) a e { s with armed := true } :=
        extract_recessive hrun hS (bitValue_xor_self true s.cfgInverted) a e
    _ = execSeg (true ^^ s.cfgInverted) a e { s with armed := true } :=
        (execSeg_of_run (s := { s with armed := true }) hrun _ hae).symm

/-- A bit string that begins recessive is presented whole, whether or not the session is armed (R114, R144). -/
theorem execWords_bitsMacro_recessive {rest : List Bit} {t0 : Nat} {s : State} (hrun : s.mode = .run)
    (hS : 0 < s.samplesPerBit.toNat) (hend : t0 + (true :: rest).length * s.samplesPerBit.toNat < 2 ^ 64) :
    execWords (bitsMacro s.samplesPerBit.toNat s.cfgInverted t0 (true :: rest)) s =
      processBitEvents (eventsOf s.samplesPerBit.toNat t0 (true :: rest)) { s with armed := true } := by
  have hspell := bitsOfRuns_runsOf (true :: rest)
  have hpos := runsOf_length_pos (true :: rest)
  have hsegs := execWords_segsOfRuns hS (runsOf (true :: rest)) (State.armedSession_of_run hrun) hpos (by rwa [hspell])
  rw [hspell] at hsegs
  rw [← hsegs, bitsMacro]
  obtain ⟨m, more, hruns⟩ := runsOf_cons_eq true rest
  rw [hruns, bitsOfRuns_cons] at hspell
  rw [hruns, List.forall_mem_cons] at hpos
  rw [← hspell, List.length_append, List.length_replicate, Nat.add_mul] at hend
  have hm : 0 < m * s.samplesPerBit.toNat := Nat.mul_pos hpos.1 hS
  have hstart : (BitVec.ofNat 64 t0).toNat = t0 := toNat_ofNat_sample (by omega)
  have hedge : (BitVec.ofNat 64 (t0 + m * s.samplesPerBit.toNat)).toNat = t0 + m * s.samplesPerBit.toNat :=
    toNat_ofNat_sample (by omega)
  rw [hruns, segsOfRuns, execWords, execWords,
    exec_asmSeg_recessive hrun (by rintro h; simp [h] at hS) (by omega)]

/-- Settles O60: the commands are the BitEvents of the bit string in a session armed by its first segment; the recessive
bits before the frame change nothing, and the frame is reported field by field. -/
theorem framePresentedByCommandsIsReportedExactly : Obligations.FramePresentedByCommandsIsReportedExactly := by
  unfold Obligations.FramePresentedByCommandsIsReportedExactly
  intro f idleBits t0 s hf hinv hrun hstate hidle hend
  have hS : 0 < s.samplesPerBit.toNat := by have := hinv.five_le_samplesPerBit hrun; omega
  obtain ⟨more, rfl⟩ : ∃ more, idleBits = more + 1 := ⟨idleBits - 1, by omega⟩
  obtain ⟨-, hindex, hinactive⟩ := hinv.idle hstate
  have harmedIdle : ({ s with armed := true } : State).Idle := ⟨hstate, hindex, hinactive⟩
  rw [foldl_andThen_exec, andThen_next, List.replicate_succ, List.cons_append,
    execWords_bitsMacro_recessive hrun hS (by simpa [Nat.add_right_comm] using hend), ← List.cons_append,
    ← List.replicate_succ, eventsOf_append, processBitEvents_append,
    harmedIdle.processBitEvents_recessive _ ?_, andThen_next]
  · exact processBitEvents_encode hf harmedIdle (eventsOf_map_fst _ _ _)
  · exact fun e he => List.eq_of_mem_replicate (fst_mem_of_mem_eventsOf he)

end Sys2Proof.Machine

namespace Sys2Proof.Machine

/-! ## The CRC-15 engine (R230, R234, R235)

`crcFeed` is linear over GF(2) in accumulator and bit, and a feed of 0 loses nothing, because the polynomial has constant
term 1. So feeding a fixed bit sequence is injective in the accumulator; both uses of the residue follow from that and from
`crcFeedAll_msbFirst_self`: an accumulator fed with its own bits leaves residue 0. -/

/-- The top bit of the accumulator, as a number. -/
theorem toNat_getLsbD_top (c : BitVec 15) : (c.getLsbD 14).toNat = c.toNat / 2 ^ 14 := by
  have hlt := c.isLt
  rw [BitVec.getLsbD, Nat.toNat_testBit]
  omega

theorem toNat_shiftLeft_one {w : Nat} (v : BitVec w) : (v <<< 1).toNat = 2 * v.toNat % 2 ^ w := by
  rw [BitVec.toNat_shiftLeft, Nat.shiftLeft_eq, Nat.pow_one, Nat.mul_comm]

/-- Whether the polynomial is added to the shifted accumulator is the one thing the fed bit decides. -/
theorem crcFeed_eq_xor (c : BitVec 15) (b : Bit) :
    crcFeed c b = (c <<< 1) ^^^ (if b ^^ c.getLsbD 14 then Config.crcPoly else 0) := by
  rw [crcFeed]
  split <;> simp

/-- Adding a word where a GF(2) sum is 1 is adding it once for each summand that is 1. -/
theorem ite_bxor_eq_xor {w : Nat} (x y : Bool) (p : BitVec w) :
    (if x ^^ y then p else 0) = (if x then p else 0) ^^^ (if y then p else 0) := by
  cases x <;> cases y <;> simp

/-- The top bit before the shift and the fed bit enter the feed only through their sum. -/
theorem bxor_getLsbD_xor (c d : BitVec 15) (a b : Bit) :
    (a ^^ b ^^ (c ^^^ d).getLsbD 14) = ((a ^^ c.getLsbD 14) ^^ (b ^^ d.getLsbD 14)) := by
  rw [BitVec.getLsbD_xor, Bool.xor_assoc, Bool.xor_assoc, Bool.xor_left_comm b]

/-- One feed is linear over GF(2) in accumulator and bit (R235). -/
theorem crcFeed_xor (c d : BitVec 15) (a b : Bit) :
    crcFeed (c ^^^ d) (a ^^ b) = crcFeed c a ^^^ crcFeed d b := by
  simp only [crcFeed_eq_xor, bxor_getLsbD_xor, ite_bxor_eq_xor, BitVec.shiftLeft_xor_distrib]
  ac_rfl

/-- The accumulator of the sum of two sequences of equal length is the sum of their accumulators (R235). -/
theorem crcFeedAll_xor (pairs : List (Bit × Bit)) (c d : BitVec 15) :
    crcFeedAll (c ^^^ d) (pairs.map fun p => p.1 ^^ p.2) =
      crcFeedAll c (pairs.map Prod.fst) ^^^ crcFeedAll d (pairs.map Prod.snd) := by
  induction pairs generalizing c d with
  | nil => rfl
  | cons p rest ih => simp only [List.map_cons, crcFeedAll_cons, crcFeed_xor, ih]

/-- A fed 0 maps only 0 to 0: bit 0 of the result is the polynomial's constant term when the polynomial was added, and
else the accumulator was only shifted, with a 0 leaving it. -/
theorem eq_zero_of_crcFeed_false {c : BitVec 15} (h : crcFeed c false = 0) : c = 0 := by
  cases htop : c.getLsbD 14 with
  | true =>
    have hconstant : (crcFeed c false).getLsbD 0 = true := by simp [crcFeed, htop]
    simp [h] at hconstant
  | false =>
    have hshift : c <<< 1 = 0 := by rwa [← crcFeed_top, htop]
    have htopNat := toNat_getLsbD_top c
    have hshiftNat := toNat_shiftLeft_one c
    rw [htop, Bool.toNat_false] at htopNat
    have hzero : (0 : BitVec 15).toNat = 0 := rfl
    rw [hshift, hzero] at hshiftNat
    apply BitVec.eq_of_toNat_eq
    omega

theorem crcFeed_injective (b : Bit) : Function.Injective (crcFeed · b) := by
  intro c d (h : crcFeed c b = crcFeed d b)
  have hsum : crcFeed (c ^^^ d) false = 0#15 := by
    rw [← Bool.xor_self b, crcFeed_xor, h, BitVec.xor_self]
  exact BitVec.xor_eq_zero_iff.1 (eq_zero_of_crcFeed_false hsum)

/-- Two accumulators that agree after a bit sequence agreed before it. -/
theorem crcFeedAll_injective (bits : List Bit) : Function.Injective (crcFeedAll · bits) := by
  induction bits with
  | nil => exact fun _ _ h => h
  | cons b rest ih => exact ih.comp (crcFeed_injective b)

theorem crcFeed_ne_crcFeed_not (c : BitVec 15) (b : Bit) : crcFeed c (!b) ≠ crcFeed c b := by
  intro h
  have hsum : crcFeed (c ^^^ c) (!b ^^ b) = 0#15 := by rw [crcFeed_xor, h, BitVec.xor_self]
  rw [BitVec.xor_self, Bool.not_xor_self] at hsum
  exact absurd hsum (by decide)

/-- A sequence followed by its own CRC leaves no residue. -/
theorem crcFeedAll_append_own_crc (c : BitVec 15) (bits : List Bit) :
    crcFeedAll c (bits ++ msbFirst (crcFeedAll c bits)) = 0 := by
  rw [crcFeedAll_append, crcFeedAll_msbFirst_self]

/-- Flipping one bit of a sequence changes the accumulator. -/
theorem crcFeedAll_flip_ne (c : BitVec 15) (before after : List Bit) (b : Bit) :
    crcFeedAll c (before ++ (!b) :: after) ≠ crcFeedAll c (before ++ b :: after) := by
  rw [crcFeedAll_append, crcFeedAll_append, crcFeedAll_cons, crcFeedAll_cons]
  exact (crcFeedAll_injective after).ne (crcFeed_ne_crcFeed_not _ b)

/-- The residue is 0 exactly when the fifteen bits fed are the accumulator's own (R234). -/
theorem crcFeedAll_msbFirst_eq_zero_iff (P T : BitVec 15) : crcFeedAll P (msbFirst T) = 0 ↔ T = P := by
  rw [← crcFeedAll_msbFirst_self T]
  exact (crcFeedAll_injective (msbFirst T)).eq_iff.trans eq_comm

/-- Settles O43: feeding `T` is injective in the accumulator, and `T` itself is one that leaves 0. -/
theorem residueIsZeroExactlyWhenTheCrcMatches : Obligations.ResidueIsZeroExactlyWhenTheCrcMatches :=
  crcFeedAll_msbFirst_eq_zero_iff

/-- Settles O44: linearity by induction over the sequences; the accumulator of a flipped sequence is another one, so the CRC
sent no longer matches it. -/
theorem crcIsLinearAndDetectsSingleBitErrors : Obligations.CrcIsLinearAndDetectsSingleBitErrors := by
  unfold Obligations.CrcIsLinearAndDetectsSingleBitErrors
  refine ⟨crcFeedAll_xor, ?_⟩
  rintro before after b T rfl
  refine ⟨crcFeedAll_append_own_crc 0 _, ?_⟩
  rw [crcFeedAll_append, Ne, crcFeedAll_msbFirst_eq_zero_iff]
  exact (crcFeedAll_flip_ne 0 before after b).symm

/-- Settles O42: the fed bit and the top bit differ exactly when they do as numbers. -/
theorem crcFeedShiftsAndXorsThePolynomial : Obligations.CrcFeedShiftsAndXorsThePolynomial := by
  unfold Obligations.CrcFeedShiftsAndXorsThePolynomial
  intro c b
  rw [← toNat_getLsbD_top, ← toNat_shiftLeft_one, crcFeed]
  by_cases hb : b = c.getLsbD 14
  · simp [hb]
  · have hdiff : b.toNat ≠ (c.getLsbD 14).toNat := fun h => hb (by rw [← Bool.ofNat_toNat b, h, Bool.ofNat_toNat])
    have hadd : (b ^^ c.getLsbD 14) = true := Bool.xor_iff_ne.2 hb
    rw [if_pos hadd, if_neg hdiff, BitVec.toNat_xor]
    rfl

end Sys2Proof.Machine

namespace Sys2Proof.Machine

/-! ## The Error Recovery Controller (R245, R246)

Both rows have the one meaning `execDecoderError`. It is said once, with the bit's run as a number counted in the state
before the bit; the statement about `ErrorBit` reads its two branches off. -/

theorem selects_decoderError : Selects 10 0 0 .decoderError := fun index b n _ hhi =>
  (decodeHandler_decoderError index b n).trans (if_pos (Nat.le_zero.1 hhi))

/-! ### The tracker on a raw bit -/

/-- The run of a raw bit, as a number: it saturates at 15 (R245). -/
theorem toNat_trackRaw_runLength (b : Bit) (s : State) :
    (trackRaw b s).runLength.toNat = if b = s.lastBit then min (s.runLength.toNat + 1) 15 else 1 := by
  rw [trackRaw_runLength, apply_ite BitVec.toNat, runNext_toNat]
  rfl

/-- Tracking a raw bit writes the tracker only. -/
theorem trackRaw_eq (b : Bit) (s : State) :
    trackRaw b s = { s with runLength := (trackRaw b s).runLength, lastBit := b } := by
  rw [trackRaw]
  split
  next hsame => rw [hsame]; rfl
  next => rfl

/-- The marker port and the tracker are apart. -/
theorem trackRaw_emitMrk (b v : Bit) (cls : MarkerClass) (n : Sample) (s : State) :
    trackRaw b (emitMrk cls v n s) = emitMrk cls v n (trackRaw b s) := by
  rw [trackRaw_eq, trackRaw_eq b s, trackRaw_runLength, trackRaw_runLength]
  rfl

/-- The idle configuration overwrites the tracker (R246). -/
theorem recoveryExit_trackRaw (b : Bit) (n : Sample) (s : State) :
    recoveryExit n (trackRaw b s) = recoveryExit n s := by
  rw [trackRaw_eq]
  rfl

/-! ### One bit of recovery -/

/-- What `ErrorBit` does: the marker, then by the bit's run the exit or the tracked bit (R245, R246). -/
theorem execDecoderError_eq (b : Bit) (n : Sample) (s : State) :
    execDecoderError b n s =
      if b = true ∧ 11 ≤ (trackRaw b s).runLength.toNat then .next (recoveryExit n (emitMrk .error b n s))
      else .next (emitMrk .error b n (trackRaw b s)) := by
  rw [execDecoderError, trackRaw_lastBit, recoveryExit_trackRaw, trackRaw_emitMrk]
  rfl

/-- Settles O40: both rows are `ErrorBit`, whose exit test is the statement's on the run as a number. -/
theorem errorBitCountsElevenRecessiveBits : Obligations.ErrorBitCountsElevenRecessiveBits := by
  unfold Obligations.ErrorBitCountsElevenRecessiveBits
  refine ⟨selects_decoderError, fun b n s i run hi hrun => ?_⟩
  have hexec : exec i s = execDecoderError b n s := by rcases hi with rfl | rfl <;> rfl
  have htracked : (trackRaw b s).runLength.toNat = run := (toNat_trackRaw_runLength b s).trans hrun.symm
  rw [hexec, execDecoderError_eq, htracked]
  refine ⟨fun hstay => ⟨_, if_neg ?_, htracked, ?_⟩, fun ⟨hb, hexit⟩ => ?_⟩
  · rintro ⟨rfl, hexit⟩
    exact absurd (hstay.resolve_left nofun) (Nat.not_lt.2 hexit)
  · rw [trackRaw_eq]
    rfl
  · rw [if_pos ⟨hb, hexit⟩]
    rfl

end Sys2Proof.Machine

namespace Sys2Proof

/-! ## The round trip of every instruction

Each constructor has its lemma in `Laws.RoundTrip`; here they are put together. -/

/-- Settles O1, by the constructors of `Instr`. -/
theorem decodeOfEncodeIsTheInstruction : Obligations.DecodeOfEncodeIsTheInstruction := by
  unfold Obligations.DecodeOfEncodeIsTheInstruction
  intro i
  cases i with
  | nop p => exact Laws.RoundTrip.nop p
  | reset p => exact Laws.RoundTrip.reset p
  | config z v r f => exact Laws.RoundTrip.config z v r f
  | seg l a e => exact Laws.RoundTrip.seg l a e
  | reservedOp op p => exact Laws.RoundTrip.reservedOp op p
  | dsErrorbit b n => exact Laws.RoundTrip.dsErrorbit b n
  | dsInactive b n => exact Laws.RoundTrip.dsInactive b n
  | dsStuffBit b n => exact Laws.RoundTrip.dsStuffBit b n
  | dsViolation b n => exact Laws.RoundTrip.dsViolation b n
  | dsSame b n => exact Laws.RoundTrip.dsSame b n
  | dsChange b n => exact Laws.RoundTrip.dsChange b n
  | idle b n => exact Laws.RoundTrip.idle b n
  | identifierId b n => exact Laws.RoundTrip.identifierId b n
  | identifierRtr b n => exact Laws.RoundTrip.identifierRtr b n
  | identifierIde b n => exact Laws.RoundTrip.identifierIde b n
  | extIdentifierId b n => exact Laws.RoundTrip.extIdentifierId b n
  | extIdentifierRtr b n => exact Laws.RoundTrip.extIdentifierRtr b n
  | extIdentifierR1 b n => exact Laws.RoundTrip.extIdentifierR1 b n
  | controlR0 b n => exact Laws.RoundTrip.controlR0 b n
  | controlDlc b n => exact Laws.RoundTrip.controlDlc b n
  | controlDlcLast b n => exact Laws.RoundTrip.controlDlcLast b n
  | data b n => exact Laws.RoundTrip.data b n
  | crc15Bits b n => exact Laws.RoundTrip.crc15Bits b n
  | crc15Last b n => exact Laws.RoundTrip.crc15Last b n
  | crcDelimiter b n => exact Laws.RoundTrip.crcDelimiter b n
  | ackSlot b n => exact Laws.RoundTrip.ackSlot b n
  | ackDelimiter b n => exact Laws.RoundTrip.ackDelimiter b n
  | endOfFrame b n => exact Laws.RoundTrip.endOfFrame b n
  | intermission b n => exact Laws.RoundTrip.intermission b n
  | decoderError b n => exact Laws.RoundTrip.decoderError b n
  | stateUnreachable11 b n => exact Laws.RoundTrip.stateUnreachable11 b n
  | stateUnreachable12To15 code b n => exact Laws.RoundTrip.stateUnreachable12To15 code b n

end Sys2Proof

namespace Sys2Proof.Machine

/-! ## The handler rows by position (R32, R180)

`State.AtRow` says once which row stands at which position; what holds of every handler is proved by its cases. -/

/-- The handler row that stands at the position of `s`. -/
inductive State.AtRow (s : State) : (Bit → Sample → Instr) → Prop where
  | idle (hst : s.state = .idle) (hi : s.fieldBitIndex.toNat = 0) : s.AtRow .idle
  | identifierId (hst : s.state = .identifier) (hi : s.fieldBitIndex.toNat ≤ 10) : s.AtRow .identifierId
  | identifierRtr (hst : s.state = .identifier) (hi : s.fieldBitIndex.toNat = 11) : s.AtRow .identifierRtr
  | identifierIde (hst : s.state = .identifier) (hi : s.fieldBitIndex.toNat = 12) : s.AtRow .identifierIde
  | extIdentifierId (hst : s.state = .extIdentifier) (hi : s.fieldBitIndex.toNat ≤ 17) : s.AtRow .extIdentifierId
  | extIdentifierRtr (hst : s.state = .extIdentifier) (hi : s.fieldBitIndex.toNat = 18) : s.AtRow .extIdentifierRtr
  | extIdentifierR1 (hst : s.state = .extIdentifier) (hi : s.fieldBitIndex.toNat = 19) : s.AtRow .extIdentifierR1
  | controlR0 (hst : s.state = .control) (hi : s.fieldBitIndex.toNat = 0) : s.AtRow .controlR0
  | controlDlc (hst : s.state = .control) (hlo : 1 ≤ s.fieldBitIndex.toNat) (hhi : s.fieldBitIndex.toNat ≤ 3) :
      s.AtRow .controlDlc
  | controlDlcLast (hst : s.state = .control) (hi : s.fieldBitIndex.toNat = 4) : s.AtRow .controlDlcLast
  | data (hst : s.state = .data) (hpos : s.InData) : s.AtRow .data
  | crc15Bits (hst : s.state = .crc15) (hi : s.fieldBitIndex.toNat ≤ 13) : s.AtRow .crc15Bits
  | crc15Last (hst : s.state = .crc15) (hi : s.fieldBitIndex.toNat = 14) : s.AtRow .crc15Last
  | crcDelimiter (hst : s.state = .crcDelimiter) (hi : s.fieldBitIndex.toNat = 0) : s.AtRow .crcDelimiter
  | ackSlot (hst : s.state = .ack) (hi : s.fieldBitIndex.toNat = 0) : s.AtRow .ackSlot
  | ackDelimiter (hst : s.state = .ack) (hi : s.fieldBitIndex.toNat = 1) : s.AtRow .ackDelimiter
  | endOfFrame (hst : s.state = .endOfFrame) (hi : s.fieldBitIndex.toNat ≤ 6) : s.AtRow .endOfFrame
  | intermission (hst : s.state = .intermission) (hi : s.fieldBitIndex.toNat ≤ 2) : s.AtRow .intermission
  | decoderError (hst : s.state = .decoderError) (hi : s.fieldBitIndex.toNat = 0) : s.AtRow .decoderError

section
variable {i : Bit → Sample → Instr} {s : State}

/-- At every legal position a handler row stands (R32). -/
theorem State.PositionLegal.exists_row (h : s.PositionLegal) : ∃ i, s.AtRow i := by
  obtain ⟨hindex, hlen⟩ := h
  cases hst : s.state <;> rw [hst] at hindex
  case idle => exact ⟨_, .idle hst (Nat.lt_one_iff.1 hindex)⟩
  case identifier =>
    replace hindex : s.fieldBitIndex.toNat < 13 := hindex
    rcases (by omega : s.fieldBitIndex.toNat ≤ 10 ∨ s.fieldBitIndex.toNat = 11 ∨ s.fieldBitIndex.toNat = 12)
      with hi | hi | hi
    · exact ⟨_, .identifierId hst hi⟩
    · exact ⟨_, .identifierRtr hst hi⟩
    · exact ⟨_, .identifierIde hst hi⟩
  case extIdentifier =>
    replace hindex : s.fieldBitIndex.toNat < 20 := hindex
    rcases (by omega : s.fieldBitIndex.toNat ≤ 17 ∨ s.fieldBitIndex.toNat = 18 ∨ s.fieldBitIndex.toNat = 19)
      with hi | hi | hi
    · exact ⟨_, .extIdentifierId hst hi⟩
    · exact ⟨_, .extIdentifierRtr hst hi⟩
    · exact ⟨_, .extIdentifierR1 hst hi⟩
  case control =>
    replace hindex : s.fieldBitIndex.toNat < 5 := hindex
    rcases (by omega : s.fieldBitIndex.toNat = 0 ∨
        (1 ≤ s.fieldBitIndex.toNat ∧ s.fieldBitIndex.toNat ≤ 3) ∨ s.fieldBitIndex.toNat = 4)
      with hi | ⟨hlo, hhi⟩ | hi
    · exact ⟨_, .controlR0 hst hi⟩
    · exact ⟨_, .controlDlc hst hlo hhi⟩
    · exact ⟨_, .controlDlcLast hst hi⟩
  case data => exact ⟨_, .data hst ⟨hindex, hlen⟩⟩
  case crc15 =>
    replace hindex : s.fieldBitIndex.toNat < 15 := hindex
    rcases (by omega : s.fieldBitIndex.toNat ≤ 13 ∨ s.fieldBitIndex.toNat = 14) with hi | hi
    · exact ⟨_, .crc15Bits hst hi⟩
    · exact ⟨_, .crc15Last hst hi⟩
  case crcDelimiter => exact ⟨_, .crcDelimiter hst (Nat.lt_one_iff.1 hindex)⟩
  case ack =>
    replace hindex : s.fieldBitIndex.toNat < 2 := hindex
    rcases (by omega : s.fieldBitIndex.toNat = 0 ∨ s.fieldBitIndex.toNat = 1) with hi | hi
    · exact ⟨_, .ackSlot hst hi⟩
    · exact ⟨_, .ackDelimiter hst hi⟩
  case endOfFrame => exact ⟨_, .endOfFrame hst (Nat.le_of_lt_succ hindex)⟩
  case intermission => exact ⟨_, .intermission hst (Nat.le_of_lt_succ hindex)⟩
  case decoderError => exact ⟨_, .decoderError hst (Nat.lt_one_iff.1 hindex)⟩
  all_goals exact absurd hindex (Nat.not_lt_zero _)

/-- The decoder reads the row at the position. -/
theorem State.AtRow.decode_eq (h : s.AtRow i) (b : Bit) (n : Sample) :
    decode (.handler s.state.code s.fieldBitIndex b n) = .ok (i b n) := by
  cases h with
  | idle hst hi => rw [hst]; exact selects_idle _ _ _ (Nat.zero_le _) hi.le
  | identifierId hst hi => rw [hst]; exact selects_identifierId _ _ _ (Nat.zero_le _) hi
  | identifierRtr hst hi => rw [hst]; exact selects_identifierRtr _ _ _ hi.ge hi.le
  | identifierIde hst hi => rw [hst]; exact selects_identifierIde _ _ _ hi.ge hi.le
  | extIdentifierId hst hi => rw [hst]; exact selects_extIdentifierId _ _ _ (Nat.zero_le _) hi
  | extIdentifierRtr hst hi => rw [hst]; exact selects_extIdentifierRtr _ _ _ hi.ge hi.le
  | extIdentifierR1 hst hi => rw [hst]; exact selects_extIdentifierR1 _ _ _ hi.ge hi.le
  | controlR0 hst hi => rw [hst]; exact selects_controlR0 _ _ _ hi.ge hi.le
  | controlDlc hst hlo hhi => rw [hst]; exact selects_controlDlc _ _ _ hlo hhi
  | controlDlcLast hst hi => rw [hst]; exact selects_controlDlcLast _ _ _ hi.ge hi.le
  | data hst hpos =>
    obtain ⟨hindex, hlen⟩ := hpos
    rw [hst]; exact selects_data _ _ _ (Nat.zero_le _) (by omega)
  | crc15Bits hst hi => rw [hst]; exact selects_crc15Bits _ _ _ (Nat.zero_le _) hi
  | crc15Last hst hi => rw [hst]; exact selects_crc15Last _ _ _ hi.ge hi.le
  | crcDelimiter hst hi => rw [hst]; exact selects_crcDelimiter _ _ _ hi.ge hi.le
  | ackSlot hst hi => rw [hst]; exact selects_ackSlot _ _ _ hi.ge hi.le
  | ackDelimiter hst hi => rw [hst]; exact selects_ackDelimiter _ _ _ hi.ge hi.le
  | endOfFrame hst hi => rw [hst]; exact selects_endOfFrame _ _ _ (Nat.zero_le _) hi
  | intermission hst hi => rw [hst]; exact selects_intermission _ _ _ (Nat.zero_le _) hi
  | decoderError hst hi => rw [hst]; exact selects_decoderError _ _ _ hi.ge hi.le

/-- The row at the position is what a forwarded bit runs (R180). -/
theorem State.AtRow.runHandler_eq (h : s.AtRow i) (b : Bit) (n : Sample) : runHandler b n s = exec (i b n) s :=
  runHandler_of_decode (h.decode_eq b n)

end

end Sys2Proof.Machine

namespace Sys2Proof.Machine

/-! ## The invariant over a BitEvent

`State.Inv` falls into two parts: what concerns the decoder (`State.DecoderInv`), which every BitEvent keeps in every mode,
and what concerns the session (`State.SessionInv`), which only commands can change. A handler sees the state with the bit
already fed to the CRC engine, so it may assume all of the decoder's part but the snapshot: `State.HandlerInv`. -/

/-- The decoder's part of the invariant but for the CRC snapshot. -/
structure State.HandlerInv (s : State) : Prop where
  position : s.PositionLegal
  destuff : s.destuffActive = stuffedRegion s.state
  tracker : s.destuffActive = true → 1 ≤ s.runLength.toNat ∧ s.runLength.toNat ≤ 5
  recovery : s.state = .decoderError → s.lastBit = true → s.runLength.toNat ≤ 10
  recorded : s.state = .decoderError → s.errCause ≠ .none
  dataFrame : s.state = .data → s.isData = true
  length : afterControl s.state = true → s.dataLen = clampLength s.dlc
  noDataYet : beforeData s.state = true → s.dataLen = 0 ∧ s.data = .zero
  bytesBeyond : ∀ k : Fin 8, s.dataLen.toNat ≤ k.val → s.data.get k = 0
  baseIdentifier : s.isExtended = false → s.identifier.toNat < 2 ^ 11
  extended : s.state = .extIdentifier → s.isExtended = true
  identifierSoFar : s.state = .identifier →
    s.isExtended = false ∧ s.identifier.toNat < 2 ^ min s.fieldBitIndex.toNat 11

/-- The decoder's part of the invariant. -/
structure State.DecoderInv (s : State) : Prop extends s.HandlerInv where
  snapshot : s.state = .crc15 → s.fieldBitIndex = 0 → s.crcSnapshot = s.crc

/-- The session's part of the invariant. -/
structure State.SessionInv (s : State) : Prop where
  faulted : s.mode = .fault ↔ s.faultCode ≠ .none
  running : s.mode = .run → s.Configured
  unconfigured : s.mode = .unconfigured → s.Unconfigured
  configuration : s.Configured ∨ s.Unconfigured

theorem State.inv_iff {s : State} : s.Inv ↔ s.DecoderInv ∧ s.SessionInv :=
  ⟨fun ⟨h1, h2, h3, h4, h5, h6, h7, h8, h9, h10, h11, h12, h13, h14, h15, h16, h17⟩ =>
    ⟨⟨⟨h1, h2, h3, h4, h5, h6, h7, h8, h9, h10, h11, h12⟩, h13⟩, ⟨h14, h15, h16, h17⟩⟩,
   fun ⟨⟨⟨h1, h2, h3, h4, h5, h6, h7, h8, h9, h10, h11, h12⟩, h13⟩, ⟨h14, h15, h16, h17⟩⟩ =>
    ⟨h1, h2, h3, h4, h5, h6, h7, h8, h9, h10, h11, h12, h13, h14, h15, h16, h17⟩⟩

/-- The meaning answers a next state with the property. -/
def Completes (P : State → Prop) (o : Result) : Prop := ∃ t, o = .next t ∧ P t

theorem Completes.of_next {P : State → Prop} {o : Result} {t : State} (h : Completes P o) (ht : o = .next t) : P t := by
  obtain ⟨u, hu, hP⟩ := h
  rw [ht] at hu
  cases hu
  exact hP

theorem Completes.mono {P Q : State → Prop} {o : Result} (h : Completes P o) (hPQ : ∀ t, P t → Q t) : Completes Q o :=
  h.imp fun t ⟨ht, hP⟩ => ⟨ht, hPQ t hP⟩

/-! ### Arithmetic of the registers -/

/-- An index below the last representable one is advanced without wrapping. -/
theorem index_add_one {i : BitVec 7} (h : i.toNat ≤ 126) : (i + 1).toNat = i.toNat + 1 := by
  rw [BitVec.toNat_add]
  exact Nat.mod_eq_of_lt (by show i.toNat + 1 < 2 ^ 7; omega)

/-- A data bit lies within its byte or ends it. -/
theorem bitInByte_lt_or_eq (index : BitVec 7) : bitInByte index < 7 ∨ bitInByte index = 7 := by
  rw [bitInByte]
  omega

/-- A bit shifted into a register with room for it adds one significant bit. -/
theorem shiftIn_lt {w m : Nat} (hw : m + 1 ≤ w) {acc : BitVec w} (h : acc.toNat < 2 ^ m) (b : Bit) :
    (shiftIn acc b).toNat < 2 ^ (m + 1) := by
  rw [shiftIn_toNat (by omega)]
  have hb := Bool.toNat_le b
  exact (Nat.mod_le _ _).trans_lt (by rw [Nat.pow_succ]; omega)

/-! ### Moves that leave the registers of the frame -/

section
variable {b : Bit} {n : Sample} {s t u : State}

/-- From `s` to `t` the length, the data buffer and the identifier of the frame stay. -/
structure State.SameFrame (s t : State) : Prop where
  dlc : t.dlc = s.dlc
  dataLen : t.dataLen = s.dataLen
  data : t.data = s.data
  isExtended : t.isExtended = s.isExtended
  identifier : t.identifier = s.identifier

/-- `t` is DECODER_ERROR just entered (R268). -/
structure State.RecoveryBegun (t : State) : Prop where
  state : t.state = .decoderError
  index : t.fieldBitIndex = 0
  inactive : t.destuffActive = false
  recorded : t.errCause ≠ .none
  run : t.lastBit = true → t.runLength.toNat ≤ 10

/-- A violation keeps the invariant, wherever in the frame it is. -/
theorem State.HandlerInv.of_violation (h : s.HandlerInv) (same : s.SameFrame t) (begun : t.RecoveryBegun) :
    t.DecoderInv where
  position := ⟨by rw [begun.state, begun.index]; exact Nat.one_pos, by rw [same.dataLen]; exact h.position.2⟩
  destuff := by rw [begun.inactive, begun.state]; rfl
  tracker := by rw [begun.inactive]; nofun
  recovery := fun _ => begun.run
  recorded := fun _ => begun.recorded
  dataFrame := by rw [begun.state]; nofun
  length := by rw [begun.state]; nofun
  noDataYet := by rw [begun.state]; nofun
  bytesBeyond := by rw [same.dataLen, same.data]; exact h.bytesBeyond
  baseIdentifier := by rw [same.isExtended, same.identifier]; exact h.baseIdentifier
  extended := by rw [begun.state]; nofun
  identifierSoFar := by rw [begun.state]; nofun
  snapshot := by rw [begun.state]; nofun

/-- While de-stuffing the run is short enough for recovery to begin (R51, R247). -/
theorem State.HandlerInv.run_le_ten (h : s.HandlerInv) (hregion : stuffedRegion s.state = true) :
    s.runLength.toNat ≤ 10 := by
  have hrun := (h.tracker (h.destuff.trans hregion)).2
  omega

/-- The states a frame passes through after its CRC sequence, and the one it ends in. -/
def afterCrcOrIdle : FieldState → Bool
  | .crcDelimiter | .ack | .endOfFrame | .intermission | .idle => true
  | .identifier | .extIdentifier | .control | .data | .crc15 | .decoderError
  | .unused11 | .unused12 | .unused13 | .unused14 | .unused15 => false

/-- `t` is at the first position of a state after the CRC sequence, with the De-stuffer as that state has it. -/
structure State.PassedOn (t : State) : Prop where
  state : afterCrcOrIdle t.state = true
  index : t.fieldBitIndex = 0
  destuff : t.destuffActive = stuffedRegion t.state
  tracker : t.destuffActive = true → 1 ≤ t.runLength.toNat ∧ t.runLength.toNat ≤ 5

theorem positions_pos {x : FieldState} (hx : afterCrcOrIdle x = true) (dataLen : BitVec 4) :
    0 < x.positions dataLen := by
  cases x <;> simp [afterCrcOrIdle, FieldState.positions] at hx ⊢

theorem beforeData_eq_false {x : FieldState} (hx : afterCrcOrIdle x = true) : beforeData x = false := by
  cases x <;> simp [afterCrcOrIdle, beforeData] at hx ⊢

theorem State.PassedOn.state_ne (passed : t.PassedOn) {x : FieldState} (hx : afterCrcOrIdle x = false) :
    t.state ≠ x := by
  rintro rfl
  simp [passed.state] at hx

/-- From CRC15 on a frame that passes to its next state keeps the invariant. -/
theorem State.HandlerInv.of_passed (h : s.HandlerInv) (hfrom : afterControl s.state = true) (same : s.SameFrame t)
    (passed : t.PassedOn) : t.DecoderInv where
  position := ⟨by rw [passed.index]; exact positions_pos passed.state _, by rw [same.dataLen]; exact h.position.2⟩
  destuff := passed.destuff
  tracker := passed.tracker
  recovery := fun hst => absurd hst (passed.state_ne rfl)
  recorded := fun hst => absurd hst (passed.state_ne rfl)
  dataFrame := fun hst => absurd hst (passed.state_ne rfl)
  length := fun _ => by rw [same.dataLen, same.dlc, h.length hfrom]
  noDataYet := by rw [beforeData_eq_false passed.state]; nofun
  bytesBeyond := by rw [same.dataLen, same.data]; exact h.bytesBeyond
  baseIdentifier := by rw [same.isExtended, same.identifier]; exact h.baseIdentifier
  extended := fun hst => absurd hst (passed.state_ne rfl)
  identifierSoFar := fun hst => absurd hst (passed.state_ne rfl)
  snapshot := fun hst => absurd hst (passed.state_ne rfl)

theorem decoderInv_idleConfig (s : State) : (idleConfig s).DecoderInv where
  position := ⟨Nat.one_pos, Nat.zero_le _⟩
  destuff := rfl
  tracker := nofun
  recovery := nofun
  recorded := nofun
  dataFrame := nofun
  length := nofun
  noDataYet := nofun
  bytesBeyond := fun k _ => DataBuffer.get_zero k
  baseIdentifier := fun _ => Nat.pow_pos (by decide)
  extended := nofun
  identifierSoFar := nofun
  snapshot := nofun

/-! ### Each handler row -/

theorem decoderInv_idle (h : u.HandlerInv) (hst : u.state = .idle) :
    Completes State.DecoderInv (exec (.idle b n) u) := by
  cases b with
  | true => exact ⟨_, exec_idle_recessive n u, { h with snapshot := by rw [hst]; nofun }⟩
  | false =>
    exact ⟨_, exec_idle_dominant n u,
      { decoderInv_idleConfig u with
        position := ⟨show 0 < 13 by decide, Nat.zero_le _⟩
        destuff := rfl
        tracker := fun _ => ⟨le_rfl, show 1 ≤ 5 by decide⟩
        recovery := nofun
        recorded := nofun
        dataFrame := nofun
        length := nofun
        noDataYet := fun _ => ⟨rfl, rfl⟩
        extended := nofun
        identifierSoFar := fun _ => ⟨rfl, Nat.one_pos⟩
        snapshot := nofun }⟩

theorem decoderInv_identifierId (h : u.HandlerInv) (hst : u.state = .identifier) (hi : u.fieldBitIndex.toNat ≤ 10) :
    Completes State.DecoderInv (exec (.identifierId b n) u) := by
  have hindex := index_add_one (i := u.fieldBitIndex) (by omega)
  obtain ⟨hbase, hid⟩ := h.identifierSoFar hst
  rw [Nat.min_eq_left (by omega)] at hid
  have hid' : (shiftIn u.identifier b).toNat < 2 ^ (u.fieldBitIndex.toNat + 1) := shiftIn_lt (by omega) hid b
  have hle : 2 ^ (u.fieldBitIndex.toNat + 1) ≤ 2 ^ 11 := Nat.pow_le_pow_right (by decide) (by omega)
  exact ⟨_, exec_identifierId b n u,
    { h with
      position := ⟨by simp only [hst, hindex, FieldState.positions]; omega, h.position.2⟩
      baseIdentifier := fun _ => hid'.trans_le hle
      identifierSoFar := fun _ => ⟨hbase, by simp only [hindex]; rwa [Nat.min_eq_left (by omega)]⟩
      snapshot := by rw [hst]; nofun }⟩

theorem decoderInv_identifierRtr (h : u.HandlerInv) (hst : u.state = .identifier) (hi : u.fieldBitIndex.toNat = 11) :
    Completes State.DecoderInv (exec (.identifierRtr b n) u) := by
  obtain ⟨hbase, hid⟩ := h.identifierSoFar hst
  rw [hi] at hid
  exact ⟨_, exec_identifierRtr b n u,
    { h with
      position := ⟨by rw [hst]; exact (by decide : 12 < 13), h.position.2⟩
      dataFrame := by rw [hst]; nofun
      identifierSoFar := fun _ => ⟨hbase, hid⟩
      snapshot := by rw [hst]; nofun }⟩

theorem decoderInv_identifierIde (h : u.HandlerInv) (hst : u.state = .identifier) :
    Completes State.DecoderInv (exec (.identifierIde b n) u) := by
  have hactive : u.destuffActive = true := h.destuff.trans (by rw [hst]; rfl)
  have hnone := h.noDataYet (by rw [hst]; rfl)
  cases b with
  | true =>
    exact ⟨_, exec_identifierIde_recessive n u,
      { h with
        position := ⟨show 0 < 20 by decide, h.position.2⟩
        destuff := hactive
        recovery := nofun
        recorded := nofun
        dataFrame := nofun
        length := nofun
        noDataYet := fun _ => hnone
        baseIdentifier := nofun
        extended := fun _ => rfl
        identifierSoFar := nofun
        snapshot := nofun }⟩
  | false =>
    exact ⟨_, exec_identifierIde_dominant n u,
      { h with
        position := ⟨show 0 < 5 by decide, h.position.2⟩
        destuff := hactive
        recovery := nofun
        recorded := nofun
        dataFrame := nofun
        length := nofun
        noDataYet := fun _ => hnone
        extended := nofun
        identifierSoFar := nofun
        snapshot := nofun }⟩

theorem decoderInv_extIdentifierId (h : u.HandlerInv) (hst : u.state = .extIdentifier)
    (hi : u.fieldBitIndex.toNat ≤ 17) : Completes State.DecoderInv (exec (.extIdentifierId b n) u) := by
  have hindex := index_add_one (i := u.fieldBitIndex) (by omega)
  exact ⟨_, exec_extIdentifierId b n u,
    { h with
      position := ⟨by simp only [hst, hindex, FieldState.positions]; omega, h.position.2⟩
      baseIdentifier := by rw [h.extended hst]; nofun
      identifierSoFar := by rw [hst]; nofun
      snapshot := by rw [hst]; nofun }⟩

theorem decoderInv_extIdentifierRtr (h : u.HandlerInv) (hst : u.state = .extIdentifier) :
    Completes State.DecoderInv (exec (.extIdentifierRtr b n) u) :=
  ⟨_, exec_extIdentifierRtr b n u,
    { h with
      position := ⟨by rw [hst]; exact (by decide : 19 < 20), h.position.2⟩
      dataFrame := by rw [hst]; nofun
      identifierSoFar := by rw [hst]; nofun
      snapshot := by rw [hst]; nofun }⟩

theorem decoderInv_extIdentifierR1 (h : u.HandlerInv) (hst : u.state = .extIdentifier) :
    Completes State.DecoderInv (exec (.extIdentifierR1 b n) u) := by
  have hregion : stuffedRegion u.state = true := by rw [hst]; rfl
  have hnone := h.noDataYet (by rw [hst]; rfl)
  cases b with
  | true =>
    exact ⟨_, exec_extIdentifierR1_recessive n u,
      h.of_violation ⟨rfl, rfl, rfl, rfl, rfl⟩ ⟨rfl, rfl, rfl, nofun, fun _ => h.run_le_ten hregion⟩⟩
  | false =>
    exact ⟨_, exec_extIdentifierR1_dominant n u,
      { h with
        position := ⟨show 0 < 5 by decide, h.position.2⟩
        destuff := h.destuff.trans hregion
        recovery := nofun
        recorded := nofun
        dataFrame := nofun
        length := nofun
        noDataYet := fun _ => hnone
        extended := nofun
        identifierSoFar := nofun
        snapshot := nofun }⟩

theorem decoderInv_controlR0 (h : u.HandlerInv) (hst : u.state = .control) :
    Completes State.DecoderInv (exec (.controlR0 b n) u) := by
  cases b with
  | true =>
    exact ⟨_, exec_controlR0_recessive n u,
      { h with
        position := ⟨by rw [hst]; exact (by decide : 1 < 5), h.position.2⟩
        recorded := by rw [hst]; nofun
        identifierSoFar := by rw [hst]; nofun
        snapshot := by rw [hst]; nofun }⟩
  | false =>
    exact ⟨_, exec_controlR0_dominant n u,
      { h with
        position := ⟨by rw [hst]; exact (by decide : 1 < 5), h.position.2⟩
        identifierSoFar := by rw [hst]; nofun
        snapshot := by rw [hst]; nofun }⟩

theorem decoderInv_controlDlc (h : u.HandlerInv) (hst : u.state = .control) (hi : u.fieldBitIndex.toNat ≤ 3) :
    Completes State.DecoderInv (exec (.controlDlc b n) u) := by
  have hindex := index_add_one (i := u.fieldBitIndex) (by omega)
  exact ⟨_, exec_controlDlc b n u,
    { h with
      position := ⟨by simp only [hst, hindex, FieldState.positions]; omega, h.position.2⟩
      length := by rw [hst]; nofun
      identifierSoFar := by rw [hst]; nofun
      snapshot := by rw [hst]; nofun }⟩

theorem clampLength_le (dlc : BitVec 4) : (clampLength dlc).toNat ≤ 8 := by
  rw [clampLength_toNat]
  exact Nat.min_le_right _ _

/-- The last DLC bit, by whether there is data to come. -/
theorem decoderInv_controlDlcLast (h : u.HandlerInv) (hst : u.state = .control) :
    Completes State.DecoderInv (exec (.controlDlcLast b n) u) := by
  have hactive : u.destuffActive = true := h.destuff.trans (by rw [hst]; rfl)
  obtain ⟨-, hdata⟩ := h.noDataYet (by rw [hst]; rfl)
  have hbytes (k : Fin 8) : u.data.get k = 0 := by rw [hdata, DataBuffer.get_zero]
  refine ⟨_, exec_controlDlcLast b n u, ?_⟩
  split_ifs with hnone
  · exact { h with
      position := ⟨show 0 < 15 by decide, clampLength_le _⟩
      destuff := hactive
      recovery := nofun
      recorded := nofun
      dataFrame := nofun
      length := fun _ => rfl
      noDataYet := nofun
      bytesBeyond := fun k _ => hbytes k
      extended := nofun
      identifierSoFar := nofun
      snapshot := fun _ _ => rfl }
  · obtain ⟨hlen, hkind⟩ := not_or.1 hnone
    have hpos : (clampLength (shiftIn u.dlc b)).toNat ≠ 0 := fun h0 => hlen (BitVec.toNat_inj.1 h0)
    exact { h with
      position := ⟨Nat.mul_pos (by decide) (Nat.pos_of_ne_zero hpos), clampLength_le _⟩
      destuff := hactive
      recovery := nofun
      recorded := nofun
      dataFrame := fun _ => by simpa using hkind
      length := fun _ => rfl
      noDataYet := nofun
      bytesBeyond := fun k _ => hbytes k
      extended := nofun
      identifierSoFar := nofun
      snapshot := nofun }

/-- Writing the byte an index below `8 × dataLen` belongs to leaves the bytes beyond the length at 0. -/
theorem State.HandlerInv.bytesBeyond_set (h : u.HandlerInv) (hpos : u.InData) (v : BitVec 8) (k : Fin 8)
    (hk : u.dataLen.toNat ≤ k.val) : (u.data.set (byteIndex u.fieldBitIndex) v).get k = 0 := by
  obtain ⟨hindex, hlen⟩ := hpos
  have hother : k ≠ byteIndex u.fieldBitIndex := by
    rintro rfl
    have hbyte : (byteIndex u.fieldBitIndex).val = u.fieldBitIndex.toNat / 8 := Nat.mod_eq_of_lt (by omega)
    omega
  rw [DataBuffer.get_set_other _ _ hother, h.bytesBeyond k hk]

/-- A data bit, by whether it ends its byte and the byte is the last. -/
theorem decoderInv_data (h : u.HandlerInv) (hst : u.state = .data) (hpos : u.InData) :
    Completes State.DecoderInv (exec (.data b n) u) := by
  have hbytes := h.bytesBeyond_set hpos (u.byteWith b)
  obtain ⟨hindex, hlen⟩ := id hpos
  have hnext := index_add_one (i := u.fieldBitIndex) (by omega)
  have hbyte : (byteIndex u.fieldBitIndex).val = u.fieldBitIndex.toNat / 8 := Nat.mod_eq_of_lt (by omega)
  have hbit : bitInByte u.fieldBitIndex = u.fieldBitIndex.toNat % 8 := rfl
  rcases bitInByte_lt_or_eq u.fieldBitIndex with hwithin | hend
  · exact ⟨_, exec_data_within b n u hpos hwithin,
      { h with
        position := ⟨by simp only [hst, hnext, FieldState.positions]; omega, hlen⟩
        noDataYet := by rw [hst]; nofun
        bytesBeyond := hbytes
        identifierSoFar := by rw [hst]; nofun
        snapshot := by rw [hst]; nofun }⟩
  by_cases hlast : (byteIndex u.fieldBitIndex).val + 1 = u.dataLen.toNat
  · exact ⟨_, exec_data_last b n u hpos hend hlast,
      { h with
        position := ⟨show 0 < 15 by decide, hlen⟩
        destuff := h.destuff.trans (by rw [hst]; rfl)
        recovery := nofun
        recorded := nofun
        dataFrame := nofun
        length := fun _ => h.length (by rw [hst]; rfl)
        noDataYet := nofun
        bytesBeyond := hbytes
        extended := nofun
        identifierSoFar := nofun
        snapshot := fun _ _ => rfl }⟩
  · exact ⟨_, exec_data_byte b n u hpos hend hlast,
      { h with
        position := ⟨by simp only [hst, hnext, FieldState.positions]; omega, hlen⟩
        noDataYet := by rw [hst]; nofun
        bytesBeyond := hbytes
        identifierSoFar := by rw [hst]; nofun
        snapshot := by rw [hst]; nofun }⟩

theorem decoderInv_crc15Bits (h : u.HandlerInv) (hst : u.state = .crc15) (hi : u.fieldBitIndex.toNat ≤ 13) :
    Completes State.DecoderInv (exec (.crc15Bits b n) u) := by
  have hindex := index_add_one (i := u.fieldBitIndex) (by omega)
  exact ⟨_, exec_crc15Bits b n u,
    { h with
      position := ⟨by simp only [hst, hindex, FieldState.positions]; omega, h.position.2⟩
      identifierSoFar := by rw [hst]; nofun
      snapshot := fun _ hzero => absurd (congrArg BitVec.toNat hzero) (by simp only [hindex]; exact Nat.succ_ne_zero _) }⟩

theorem decoderInv_crc15Last (h : u.HandlerInv) (hst : u.state = .crc15) :
    Completes State.DecoderInv (exec (.crc15Last b n) u) := by
  have hregion : stuffedRegion u.state = true := by rw [hst]; rfl
  by_cases hcrc : u.crc = 0
  · exact ⟨_, exec_crc15Last_of_zero b n u hcrc,
      h.of_passed (by rw [hst]; rfl) ⟨rfl, rfl, rfl, rfl, rfl⟩ ⟨rfl, rfl, h.destuff.trans hregion, h.tracker⟩⟩
  · exact ⟨_, exec_crc15Last_of_ne_zero b n u hcrc,
      h.of_violation ⟨rfl, rfl, rfl, rfl, rfl⟩ ⟨rfl, rfl, rfl, nofun, fun _ => h.run_le_ten hregion⟩⟩

theorem decoderInv_crcDelimiter (h : u.HandlerInv) (hst : u.state = .crcDelimiter) :
    Completes State.DecoderInv (exec (.crcDelimiter b n) u) := by
  have hregion : stuffedRegion u.state = true := by rw [hst]; rfl
  cases b with
  | true =>
    exact ⟨_, exec_crcDelimiter_recessive n u,
      h.of_passed (by rw [hst]; rfl) ⟨rfl, rfl, rfl, rfl, rfl⟩ ⟨rfl, rfl, rfl, nofun⟩⟩
  | false =>
    exact ⟨_, exec_crcDelimiter_dominant n u,
      h.of_violation ⟨rfl, rfl, rfl, rfl, rfl⟩ ⟨rfl, rfl, rfl, nofun, fun _ => h.run_le_ten hregion⟩⟩

theorem decoderInv_ackSlot (h : u.HandlerInv) (hst : u.state = .ack) :
    Completes State.DecoderInv (exec (.ackSlot b n) u) :=
  ⟨_, exec_ackSlot b n u,
    { h with
      position := ⟨by rw [hst]; exact (by decide : 1 < 2), h.position.2⟩
      identifierSoFar := by rw [hst]; nofun
      snapshot := by rw [hst]; nofun }⟩

/-- Either way the De-stuffer stays inactive, as it is after the stuffed region (R51). -/
theorem decoderInv_ackDelimiter (h : u.HandlerInv) (hst : u.state = .ack) :
    Completes State.DecoderInv (exec (.ackDelimiter b n) u) := by
  have hinactive : u.destuffActive = false := h.destuff.trans (by rw [hst]; rfl)
  cases b with
  | true =>
    exact ⟨_, exec_ackDelimiter_recessive n u,
      h.of_passed (by rw [hst]; rfl) ⟨rfl, rfl, rfl, rfl, rfl⟩ ⟨rfl, rfl, hinactive, h.tracker⟩⟩
  | false =>
    exact ⟨_, exec_ackDelimiter_dominant n u,
      h.of_violation ⟨rfl, rfl, rfl, rfl, rfl⟩ ⟨rfl, rfl, rfl, nofun, nofun⟩⟩

theorem decoderInv_endOfFrame (h : u.HandlerInv) (hst : u.state = .endOfFrame) (hi : u.fieldBitIndex.toNat ≤ 6) :
    Completes State.DecoderInv (exec (.endOfFrame b n) u) := by
  have hinactive : u.destuffActive = false := h.destuff.trans (by rw [hst]; rfl)
  have hindex := index_add_one (i := u.fieldBitIndex) (by omega)
  cases b with
  | true =>
    by_cases hlast : u.fieldBitIndex.toNat = 6
    · exact ⟨_, exec_endOfFrame_last n u hlast,
        h.of_passed (by rw [hst]; rfl) ⟨rfl, rfl, rfl, rfl, rfl⟩ ⟨rfl, rfl, hinactive, h.tracker⟩⟩
    · exact ⟨_, exec_endOfFrame_stay n u (by omega),
        { h with
          position := ⟨by simp only [hst, hindex, FieldState.positions]; omega, h.position.2⟩
          identifierSoFar := by rw [hst]; nofun
          snapshot := by rw [hst]; nofun }⟩
  | false =>
    exact ⟨_, exec_endOfFrame_dominant n u,
      h.of_violation ⟨rfl, rfl, rfl, rfl, rfl⟩ ⟨rfl, rfl, rfl, nofun, nofun⟩⟩

theorem decoderInv_intermission (h : u.HandlerInv) (hst : u.state = .intermission) (hi : u.fieldBitIndex.toNat ≤ 2) :
    Completes State.DecoderInv (exec (.intermission b n) u) := by
  have hinactive : u.destuffActive = false := h.destuff.trans (by rw [hst]; rfl)
  have hindex := index_add_one (i := u.fieldBitIndex) (by omega)
  cases b with
  | true =>
    by_cases hlast : u.fieldBitIndex.toNat = 2
    · exact ⟨_, exec_intermission_last n u hlast,
        h.of_passed (by rw [hst]; rfl) ⟨rfl, rfl, rfl, rfl, rfl⟩ ⟨rfl, rfl, hinactive, h.tracker⟩⟩
    · exact ⟨_, exec_intermission_stay n u (by omega),
        { h with
          position := ⟨by simp only [hst, hindex, FieldState.positions]; omega, h.position.2⟩
          identifierSoFar := by rw [hst]; nofun
          snapshot := by rw [hst]; nofun }⟩
  | false =>
    exact ⟨_, exec_intermission_dominant n u,
      h.of_violation ⟨rfl, rfl, rfl, rfl, rfl⟩ ⟨rfl, rfl, rfl, nofun, nofun⟩⟩

/-- A recovery bit that is not the eleventh recessive one is counted; the eleventh restores the idle configuration. -/
theorem decoderInv_decoderError (h : u.HandlerInv) (hst : u.state = .decoderError) :
    Completes State.DecoderInv (execDecoderError b n u) := by
  rw [execDecoderError_eq]
  by_cases hexit : b = true ∧ 11 ≤ (trackRaw b u).runLength.toNat
  · exact ⟨_, if_pos hexit, decoderInv_idleConfig _⟩
  · refine ⟨_, if_neg hexit,
      h.of_violation (by constructor <;> simp) ⟨by simp [hst], ?_, ?_, ?_, fun hlast => ?_⟩⟩
    · have hzero : u.fieldBitIndex.toNat < 1 := by simpa [hst, FieldState.positions] using h.position.1
      simpa using BitVec.eq_of_toNat_eq (Nat.lt_one_iff.1 hzero)
    · simpa [hst, stuffedRegion] using h.destuff
    · simpa using h.recorded hst
    · have hb : b = true := by simpa using hlast
      exact Nat.le_of_lt_succ (Nat.lt_of_not_le fun heleven => hexit ⟨hb, heleven⟩)

/-! ### A BitEvent -/

/-- The handler of the position completes and keeps the decoder's part of the invariant. -/
theorem State.HandlerInv.runHandler (h : u.HandlerInv) (b : Bit) (n : Sample) :
    Completes State.DecoderInv (runHandler b n u) := by
  obtain ⟨i, hrow⟩ := h.position.exists_row
  rw [hrow.runHandler_eq]
  cases hrow with
  | idle hst => exact decoderInv_idle h hst
  | identifierId hst hi => exact decoderInv_identifierId h hst hi
  | identifierRtr hst hi => exact decoderInv_identifierRtr h hst hi
  | identifierIde hst => exact decoderInv_identifierIde h hst
  | extIdentifierId hst hi => exact decoderInv_extIdentifierId h hst hi
  | extIdentifierRtr hst => exact decoderInv_extIdentifierRtr h hst
  | extIdentifierR1 hst => exact decoderInv_extIdentifierR1 h hst
  | controlR0 hst => exact decoderInv_controlR0 h hst
  | controlDlc hst _ hhi => exact decoderInv_controlDlc h hst hhi
  | controlDlcLast hst => exact decoderInv_controlDlcLast h hst
  | data hst hpos => exact decoderInv_data h hst hpos
  | crc15Bits hst hi => exact decoderInv_crc15Bits h hst hi
  | crc15Last hst => exact decoderInv_crc15Last h hst
  | crcDelimiter hst => exact decoderInv_crcDelimiter h hst
  | ackSlot hst => exact decoderInv_ackSlot h hst
  | ackDelimiter hst => exact decoderInv_ackDelimiter h hst
  | endOfFrame hst hi => exact decoderInv_endOfFrame h hst hi
  | intermission hst hi => exact decoderInv_intermission h hst hi
  | decoderError hst => exact decoderInv_decoderError h hst

theorem State.HandlerInv.feedForward (h : s.HandlerInv) (b : Bit) : (feedForward b s).HandlerInv := by
  unfold Machine.feedForward
  split
  · exact { h with }
  · exact h

/-- Forwarding completes and keeps the invariant; the snapshot is not needed before it. -/
theorem State.HandlerInv.forward (h : s.HandlerInv) (b : Bit) (n : Sample) :
    Completes State.DecoderInv (forward b n s) :=
  (h.feedForward b).runHandler b n

/-- While de-stuffing, a tracker within its bounds keeps the invariant. -/
theorem State.HandlerInv.trackSame (h : s.HandlerInv) (herr : s.state ≠ .decoderError) (hrun : s.runLength.toNat ≤ 4) :
    (trackSame s).HandlerInv :=
  { h with
    tracker := fun _ => by rw [trackSame_runLength, runNext_toNat]; omega
    recovery := fun hst => absurd hst herr }

theorem State.HandlerInv.trackRestart (h : s.HandlerInv) (b : Bit) : (trackRestart b s).HandlerInv :=
  { h with
    tracker := fun _ => ⟨le_rfl, show 1 ≤ 5 by decide⟩
    recovery := fun _ _ => show 1 ≤ 10 by decide }

/-- A BitEvent completes from every state with the decoder's part of the invariant, in every mode, and keeps it. -/
theorem State.DecoderInv.processBitEvent (h : s.DecoderInv) (b : Bit) (n : Sample) :
    Completes State.DecoderInv (processBitEvent b n s) := by
  have hh := h.toHandlerInv
  rw [processBitEvent_eq_exec_destuffCase, destuffCase]
  split_ifs with herr hinactive hstuff hviolation hsame
  · exact decoderInv_decoderError hh herr
  · exact hh.forward b n
  · exact ⟨_, exec_dsStuffBit b n s,
      { h with
        tracker := fun _ => ⟨le_rfl, show 1 ≤ 5 by decide⟩
        recovery := fun _ _ => show 1 ≤ 10 by decide }⟩
  · exact ⟨_, exec_dsViolation b n s,
      hh.of_violation ⟨rfl, rfl, rfl, rfl, rfl⟩ ⟨rfl, rfl, rfl, nofun, fun _ => show 6 ≤ 10 by decide⟩⟩
  · have hactive : s.destuffActive = true := by simpa using hinactive
    have hne : s.runLength.toNat ≠ 5 := fun h5 => hviolation ⟨BitVec.eq_of_toNat_eq h5, hsame⟩
    have hle := (h.tracker hactive).2
    exact (hh.trackSame herr (by omega)).forward b n
  · exact (hh.trackRestart b).forward b n

theorem State.DecoderInv.processBitEvents (h : s.DecoderInv) (events : List (Bit × Sample)) :
    Completes State.DecoderInv (processBitEvents events s) :=
  processBitEvents_keeps (E := fun _ => True) (fun b n _ _ hu => hu.processBitEvent b n) events (fun _ _ => trivial) s h

end
end Sys2Proof.Machine

namespace Sys2Proof.Machine

/-! ## What a command does (R120 to R126)

`IsCommand` says which command a word is and `CommandEffect` what each can answer; every statement about steps goes by their
cases. -/

/-- The command a word stands for, by its opcode (R82). -/
inductive IsCommand (w : CmdWord) : Instr → Prop where
  | nop (hop : opcodeOf w = 0b000) : IsCommand w (.nop (payloadOf w))
  | reset (hop : opcodeOf w = 0b001) : IsCommand w (.reset (payloadOf w))
  | config (hop : opcodeOf w = 0b010) : IsCommand w (decodeConfig w)
  | seg (hop : opcodeOf w = 0b011) : IsCommand w (decodeSeg w)
  | reservedOp (hop : 4 ≤ (opcodeOf w).toNat) : IsCommand w (.reservedOp (opcodeOf w) (payloadOf w))

theorem isCommand_decodeCommand (w : CmdWord) : IsCommand w (decodeCommand w) := by
  unfold decodeCommand
  split_ifs with h0 h1 h2 h3
  · exact .nop h0
  · exact .reset h1
  · exact .config h2
  · exact .seg h3
  · refine .reservedOp ?_
    bv_omega

section
variable {s t : State}

theorem unlessFault_of_fault (h : s.mode = .fault) (command : Result) : unlessFault s command = .next s := if_pos h

theorem unlessFault_of_ne_fault (h : s.mode ≠ .fault) (command : Result) : unlessFault s command = command := if_neg h

/-- RESET, in every mode (R123). -/
theorem exec_reset (p : BitVec 129) (s : State) :
    exec (.reset p) s = .next
      { State.reset with cmdIn := s.cmdIn, recOut := s.recOut, mrkOut := s.mrkOut, hasMarkers := s.hasMarkers } := rfl

/-- The values a CONFIG may have (R124). -/
structure LegalConfig (rate : BitVec 32) (bitRate : BitVec 20) : Prop where
  min : 1 ≤ bitRate.toNat
  max : bitRate.toNat ≤ 1000000
  ratio : 5 * bitRate.toNat ≤ rate.toNat

/-! ### CONFIG outside FAULT, check by check -/

section
variable {z : BitVec 76} {v : Bool} {rate : BitVec 32} {bitRate : BitVec 20} (hmode : s.mode ≠ .fault)
include hmode

theorem exec_config_of_reserved (hz : z ≠ 0) :
    exec (.config z v rate bitRate) s = .next (refuse .configReservedBits s) :=
  (unlessFault_of_ne_fault hmode _).trans (if_pos hz)

theorem exec_config_of_range (hz : z = 0) (hrange : bitRate.toNat < 1 ∨ 1000000 < bitRate.toNat) :
    exec (.config z v rate bitRate) s = .next (refuse .configBitrateRange s) :=
  (unlessFault_of_ne_fault hmode _).trans ((if_neg (not_not.2 hz)).trans (if_pos hrange))

theorem exec_config_of_ratio (hz : z = 0) (hmin : 1 ≤ bitRate.toNat) (hmax : bitRate.toNat ≤ 1000000)
    (hratio : rate.toNat < 5 * bitRate.toNat) :
    exec (.config z v rate bitRate) s = .next (refuse .configSamplingRatio s) :=
  (unlessFault_of_ne_fault hmode _).trans
    ((if_neg (not_not.2 hz)).trans ((if_neg (by simp only [Config.bitRateMin, Config.bitRateMax]; omega)).trans
      (if_pos hratio)))

theorem exec_config_of_legal (hz : z = 0) (hlegal : LegalConfig rate bitRate) :
    exec (.config z v rate bitRate) s = .next (configure v rate bitRate s) := by
  obtain ⟨hmin, hmax, hratio⟩ := hlegal
  exact (unlessFault_of_ne_fault hmode _).trans
    ((if_neg (not_not.2 hz)).trans ((if_neg (by simp only [Config.bitRateMin, Config.bitRateMax]; omega)).trans
      (if_neg (Nat.not_lt.2 hratio))))

/-- Outside FAULT a CONFIG is refused with a code, or has legal values and begins a session. -/
theorem exec_config_cases (z : BitVec 76) (v : Bool) (rate : BitVec 32) (bitRate : BitVec 20) :
    (∃ code, code ≠ .none ∧ exec (.config z v rate bitRate) s = .next (refuse code s)) ∨
      (LegalConfig rate bitRate ∧ exec (.config z v rate bitRate) s = .next (configure v rate bitRate s)) := by
  by_cases hz : z = 0
  case neg => exact .inl ⟨.configReservedBits, nofun, exec_config_of_reserved hmode hz⟩
  by_cases hrange : bitRate.toNat < 1 ∨ 1000000 < bitRate.toNat
  case pos => exact .inl ⟨.configBitrateRange, nofun, exec_config_of_range hmode hz hrange⟩
  by_cases hratio : rate.toNat < 5 * bitRate.toNat
  · exact .inl ⟨.configSamplingRatio, nofun, exec_config_of_ratio hmode hz (by omega) (by omega) hratio⟩
  · have hlegal : LegalConfig rate bitRate := ⟨by omega, by omega, by omega⟩
    exact .inr ⟨hlegal, exec_config_of_legal hmode hz hlegal⟩

end

/-! ### SEG and the reserved opcodes -/

theorem exec_seg_of_unconfigured (hmode : s.mode = .unconfigured) (l : Level) (a e : Sample) :
    exec (.seg l a e) s = .next (refuse .segNotConfigured s) :=
  (unlessFault_of_ne_fault (by simp [hmode]) _).trans (if_pos (by simp [hmode]))

theorem exec_seg_of_order (hmode : s.mode = .run) (l : Level) {a e : Sample} (hae : e.toNat ≤ a.toNat) :
    exec (.seg l a e) s = .next (refuse .segOrder s) :=
  (unlessFault_of_ne_fault (by simp [hmode]) _).trans ((if_neg (by simp [hmode])).trans (if_pos hae))

theorem exec_seg_of_run (hmode : s.mode = .run) (l : Level) {a e : Sample} (hae : a.toNat < e.toNat) :
    exec (.seg l a e) s = extract l a e s := execSeg_of_run hmode l hae

theorem exec_reservedOp (hmode : s.mode ≠ .fault) (op : BitVec 3) (p : BitVec 129) :
    exec (.reservedOp op p) s = .next (refuse .reservedOp s) := unlessFault_of_ne_fault hmode _

/-- A dominant first segment is skipped (R144). -/
theorem extract_of_skipped {l : Level} (harmed : s.armed = false) (hdominant : bitValue l s.cfgInverted = false)
    (a e : Sample) : extract l a e s = .next { s with armed := true } := if_pos ⟨harmed, hdominant⟩

/-- Every other segment hands its BitEvents over, in the armed session (R140). -/
theorem extract_of_admitted {l : Level} (h : s.armed = true ∨ bitValue l s.cfgInverted = true)
    (hS : s.samplesPerBit ≠ 0) (a e : Sample) :
    extract l a e s =
      processBitEvents (segmentEvents (bitValue l s.cfgInverted) a e s.samplesPerBit) { s with armed := true } := by
  refine (if_neg ?_).trans (if_neg hS)
  rintro ⟨harmed, hdominant⟩
  simp [harmed, hdominant] at h

/-- An extraction runs some BitEvents, none if the segment is skipped. -/
theorem exists_events_of_extract (hS : s.samplesPerBit ≠ 0) (l : Level) (a e : Sample) :
    ∃ events, extract l a e s = processBitEvents events { s with armed := true } := by
  by_cases hskip : s.armed = false ∧ bitValue l s.cfgInverted = false
  · exact ⟨[], extract_of_skipped hskip.1 hskip.2 a e⟩
  · exact ⟨_, extract_of_admitted (by simpa [or_iff_not_imp_left] using hskip) hS a e⟩

/-! ### What a command can answer -/

/-- What the command with this opcode can answer in `s`. -/
inductive CommandEffect (s : State) : BitVec 3 → Result → Prop where
  /-- In FAULT, every command but RESET (R120). -/
  | discarded (op : BitVec 3) (hfault : s.mode = .fault) : CommandEffect s op (.next s)
  /-- NOP (R122). -/
  | nothing : CommandEffect s 0b000 (.next s)
  /-- RESET (R123). -/
  | resets : CommandEffect s 0b001 (.next
      { State.reset with cmdIn := s.cmdIn, recOut := s.recOut, mrkOut := s.mrkOut, hasMarkers := s.hasMarkers })
  /-- A refusal (R121). -/
  | refuses (op : BitVec 3) (hmode : s.mode ≠ .fault) (code : FaultCode) (hcode : code ≠ .none) :
      CommandEffect s op (.next (refuse code s))
  /-- An accepted CONFIG (R124). -/
  | configures (hmode : s.mode ≠ .fault) (v : Bool) {rate : BitVec 32} {bitRate : BitVec 20}
      (hlegal : LegalConfig rate bitRate) : CommandEffect s 0b010 (.next (configure v rate bitRate s))
  /-- An admitted SEG (R140). -/
  | extracts (hmode : s.mode = .run) (events : List (Bit × Sample)) {o : Result}
      (ho : processBitEvents events { s with armed := true } = o) : CommandEffect s 0b011 o
  /-- An admitted SEG without a sampling period, which R24 rules out. -/
  | stops (hmode : s.mode = .run) (hS : s.samplesPerBit = 0) : CommandEffect s 0b011 (.fault .zeroSamplesPerBit)

theorem commandEffect_config (z : BitVec 76) (v : Bool) (rate : BitVec 32) (bitRate : BitVec 20) (s : State) :
    CommandEffect s 0b010 (exec (.config z v rate bitRate) s) := by
  by_cases hfault : s.mode = .fault
  · have hexec : exec (.config z v rate bitRate) s = .next s := unlessFault_of_fault hfault _
    exact hexec ▸ .discarded _ hfault
  · rcases exec_config_cases hfault z v rate bitRate with ⟨code, hcode, hexec⟩ | ⟨hlegal, hexec⟩
    · exact hexec ▸ .refuses _ hfault code hcode
    · exact hexec ▸ .configures hfault v hlegal

theorem commandEffect_extract (hmode : s.mode = .run) (l : Level) (a e : Sample) :
    CommandEffect s 0b011 (extract l a e s) := by
  by_cases hS : s.samplesPerBit = 0
  · by_cases hskip : s.armed = false ∧ bitValue l s.cfgInverted = false
    · exact .extracts hmode [] (extract_of_skipped hskip.1 hskip.2 a e).symm
    · have hstop : extract l a e s = .fault .zeroSamplesPerBit := (if_neg hskip).trans (if_pos hS)
      exact hstop ▸ .stops hmode hS
  · obtain ⟨events, hevents⟩ := exists_events_of_extract hS l a e
    exact .extracts hmode events hevents.symm

theorem commandEffect_seg (l : Level) (a e : Sample) (s : State) : CommandEffect s 0b011 (exec (.seg l a e) s) := by
  cases hmode : s.mode with
  | fault =>
    have hexec : exec (.seg l a e) s = .next s := unlessFault_of_fault hmode _
    exact hexec ▸ .discarded _ hmode
  | unconfigured =>
    rw [exec_seg_of_unconfigured hmode]
    exact .refuses _ (by simp [hmode]) _ nofun
  | run =>
    by_cases hae : e.toNat ≤ a.toNat
    · rw [exec_seg_of_order hmode l hae]
      exact .refuses _ (by simp [hmode]) _ nofun
    · rw [exec_seg_of_run hmode l (Nat.lt_of_not_le hae)]
      exact commandEffect_extract hmode l a e

theorem commandEffect_reservedOp (op : BitVec 3) (p : BitVec 129) (s : State) :
    CommandEffect s op (exec (.reservedOp op p) s) := by
  by_cases hfault : s.mode = .fault
  · have hexec : exec (.reservedOp op p) s = .next s := unlessFault_of_fault hfault _
    exact hexec ▸ .discarded _ hfault
  · rw [exec_reservedOp hfault]
    exact .refuses _ hfault _ nofun

/-- Every command word has one of these effects. -/
theorem commandEffect (w : CmdWord) (s : State) : CommandEffect s (opcodeOf w) (exec (decodeCommand w) s) := by
  have hcommand := isCommand_decodeCommand w
  generalize decodeCommand w = i at hcommand
  cases hcommand with
  | nop hop => rw [hop, nopChangesNothing]; exact .nothing
  | reset hop => rw [hop, exec_reset]; exact .resets
  | config hop => rw [hop]; exact commandEffect_config _ _ _ _ s
  | seg hop => rw [hop]; exact commandEffect_seg _ _ _ s
  | reservedOp hop => exact commandEffect_reservedOp _ _ s

/-- A step with a word waiting is the effect of that command. -/
theorem step_cons {w : CmdWord} {rest : List CmdWord} (h : s.cmdIn = w :: rest) :
    step s = exec (decodeCommand w) { s with cmdIn := rest } := by
  rw [step, h]

theorem step_nil (h : s.cmdIn = []) : step s = .next s := by
  rw [step, h]

/-! ### The invariant over a step -/

/-- The words still waiting on CMD are no part of the invariant. -/
theorem State.Inv.with_cmdIn (h : s.Inv) (rest : List CmdWord) : ({ s with cmdIn := rest } : State).Inv := { h with }

theorem State.Inv.decoder (h : s.Inv) : s.DecoderInv := (State.inv_iff.1 h).1

theorem State.Inv.session (h : s.Inv) : s.SessionInv := (State.inv_iff.1 h).2

/-- A configured session whose fault code fits its mode. -/
theorem sessionInv_of_run (hmode : s.mode = .run) (hcode : s.faultCode = .none) (hconf : s.Configured) :
    s.SessionInv where
  faulted := by simp [hmode, hcode]
  running := fun _ => hconf
  unconfigured := by rw [hmode]; nofun
  configuration := .inl hconf

theorem State.SessionInv.faultCode_eq_none (h : s.SessionInv) (hmode : s.mode ≠ .fault) : s.faultCode = .none := by
  by_contra hcode
  exact hmode (h.faulted.2 hcode)

theorem inv_refuse (h : s.Inv) {code : FaultCode} (hcode : code ≠ .none) : (refuse code s).Inv :=
  { h with
    faulted := ⟨fun _ => hcode, fun _ => rfl⟩
    running := nofun
    unconfigured := nofun }

theorem configured_configure (v : Bool) {rate : BitVec 32} {bitRate : BitVec 20} (hlegal : LegalConfig rate bitRate)
    (s : State) : (configure v rate bitRate s).Configured := by
  obtain ⟨hmin, hmax, hratio⟩ := hlegal
  refine ⟨hmin, hmax, hratio, ?_⟩
  exact Nat.mod_eq_of_lt ((Nat.div_le_self _ _).trans_lt rate.isLt)

theorem inv_configure (h : s.Inv) (hmode : s.mode ≠ .fault) (v : Bool) {rate : BitVec 32} {bitRate : BitVec 20}
    (hlegal : LegalConfig rate bitRate) : (configure v rate bitRate s).Inv :=
  State.inv_iff.2 ⟨decoderInv_idleConfig _,
    sessionInv_of_run rfl (h.session.faultCode_eq_none hmode) (configured_configure v hlegal s)⟩

/-- Settles O45. -/
theorem invariantHoldsAtReset : Obligations.InvariantHoldsAtReset := by
  unfold Obligations.InvariantHoldsAtReset
  have hunconf : State.reset.Unconfigured := ⟨rfl, rfl, rfl, rfl, rfl, rfl⟩
  exact ⟨State.inv_iff.2 ⟨decoderInv_idleConfig State.reset,
    ⟨⟨nofun, fun h => absurd rfl h⟩, nofun, fun _ => hunconf, .inr hunconf⟩⟩, ⟨nofun, nofun, nofun⟩⟩

/-- The ports are no part of the invariant, so RESET establishes it as power-up does. -/
theorem inv_reset (s : State) : ({ State.reset with
    cmdIn := s.cmdIn, recOut := s.recOut, mrkOut := s.mrkOut, hasMarkers := s.hasMarkers } : State).Inv :=
  { invariantHoldsAtReset.1 with }

/-- What the BitEvents of an admitted segment keep of the session. -/
theorem State.Inv.sessionInv_of_frame (h : s.Inv) (hmode : s.mode = .run)
    (f : BitEventFrame { s with armed := true } t) : t.SessionInv := by
  obtain ⟨hmin, hmax, hratio, hquot⟩ := h.running hmode
  refine sessionInv_of_run (f.mode.trans hmode)
    (f.faultCode.trans (h.session.faultCode_eq_none (by simp [hmode]))) ?_
  rw [State.Configured, f.cfgBitRateHz, f.cfgSampleRateHz, f.samplesPerBit]
  exact ⟨hmin, hmax, hratio, hquot⟩

/-- The decoder's part of the invariant does not read `armed`. -/
theorem State.Inv.decoderInv_armed (h : s.Inv) : ({ s with armed := true } : State).DecoderInv := { h.decoder with }

/-- An admitted segment completes and keeps the invariant. -/
theorem State.Inv.extracts (h : s.Inv) (hmode : s.mode = .run) (events : List (Bit × Sample)) :
    Completes (fun t => t.Inv ∧ BitEventFrame { s with armed := true } t)
      (processBitEvents events { s with armed := true }) := by
  obtain ⟨t, ht, hdecoder⟩ := h.decoderInv_armed.processBitEvents events
  have f := frame_processBitEvents ht
  exact ⟨t, ht, State.inv_iff.2 ⟨hdecoder, h.sessionInv_of_frame hmode f⟩, f⟩

theorem CommandEffect.completes {op : BitVec 3} {o : Result} (he : CommandEffect s op o) (h : s.Inv) :
    Completes State.Inv o := by
  cases he with
  | discarded => exact ⟨s, rfl, h⟩
  | nothing => exact ⟨s, rfl, h⟩
  | resets => exact ⟨_, rfl, inv_reset s⟩
  | refuses _ _ _ hcode => exact ⟨_, rfl, inv_refuse h hcode⟩
  | configures hmode v hlegal => exact ⟨_, rfl, inv_configure h hmode v hlegal⟩
  | extracts hmode events ho => exact ho ▸ (h.extracts hmode events).mono fun _ ht => ht.1
  | stops hmode hS =>
    have hfive := h.five_le_samplesPerBit hmode
    simp [hS] at hfive

/-- A step from a state of the invariant completes in one: each command does. -/
theorem State.Inv.step (h : s.Inv) : Completes State.Inv (step s) := by
  cases hcmd : s.cmdIn with
  | nil => exact ⟨s, step_nil hcmd, h⟩
  | cons w rest =>
    rw [step_cons hcmd]
    exact (commandEffect w _).completes (h.with_cmdIn rest)

/-- Settles O46. -/
theorem everyStepKeepsTheInvariant : Obligations.EveryStepKeepsTheInvariant := by
  unfold Obligations.EveryStepKeepsTheInvariant
  exact fun s t h ht => h.step.of_next ht

/-- Settles O47. -/
theorem noStepStops : Obligations.NoStepStops := by
  unfold Obligations.NoStepStops
  exact fun s h => h.step

end
end Sys2Proof.Machine

namespace Sys2Proof.Machine

/-! ## The agreement of accumulator, received CRC and snapshot (R234, R53)

A handler sees the accumulator with the bit already fed and `crcRx` without it: `State.CrcFed`. In CRC15 the handler shifts
the bit into `crcRx`, and the two agree again. -/

/-- The low `m` bits of a register, most significant first: what was received when `m` bits were shifted in. -/
def receivedBits (rx : BitVec 15) (m : Nat) : List Bit := (List.range m).map fun j => rx.getLsbD (m - 1 - j)

theorem receivedBits_fifteen (rx : BitVec 15) : receivedBits rx 15 = msbFirst rx := rfl

theorem getLsbD_shiftIn {w : Nat} (acc : BitVec w) (b : Bit) {j : Nat} (hj : j < w) :
    (shiftIn acc b).getLsbD j = if j = 0 then b else acc.getLsbD (j - 1) := by
  rw [shiftIn, BitVec.getLsbD_or, BitVec.getLsbD_shiftLeft, BitVec.getLsbD_setWidth, BitVec.getLsbD_ofBool]
  by_cases h0 : j = 0
  · simp [h0, show 0 < w by omega]
  · simp [h0, hj]

/-- A bit shifted in is received last. -/
theorem receivedBits_shiftIn (rx : BitVec 15) (b : Bit) {m : Nat} (hm : m < 15) :
    receivedBits (shiftIn rx b) (m + 1) = receivedBits rx m ++ [b] := by
  rw [receivedBits, List.range_succ, List.map_append, List.map_singleton, receivedBits]
  congr 1
  · refine List.map_congr_left fun j hj => ?_
    have hlt : j < m := List.mem_range.1 hj
    rw [getLsbD_shiftIn _ _ (by omega), if_neg (by omega)]
    congr 1
    omega
  · rw [getLsbD_shiftIn _ _ (by omega), if_pos (by omega)]

/-- The agreement as a handler sees it: the accumulator is one bit ahead of `crcRx`. -/
structure State.CrcFed (b : Bit) (s : State) : Prop where
  receiving : s.state = .crc15 →
    s.crcRx.toNat < 2 ^ s.fieldBitIndex.toNat ∧
    s.crc = crcFeedAll s.crcSnapshot (receivedBits s.crcRx s.fieldBitIndex.toNat ++ [b])
  notYet : beforeData s.state = true ∨ s.state = .data → s.crcRx = 0
  accepted : afterCrc s.state = true → s.crc = 0 ∧ s.crcRx = s.crcSnapshot

section
variable {b : Bit} {n : Sample} {s t u : State}

theorem crcIsFed_eq_false {x : FieldState} (hx : afterCrc x = true) : crcIsFed x = false := by
  cases x <;> simp [afterCrc, crcIsFed] at hx ⊢

/-- The engine is fed in CRC15 and is not fed once the sequence was accepted (R231). -/
theorem State.CrcAgrees.feedForward (h : s.CrcAgrees) (b : Bit) : (feedForward b s).CrcFed b where
  receiving := by
    rw [feedForward_state, feedForward_crc, feedForward_crcRx, feedForward_fieldBitIndex, feedForward_crcSnapshot]
    intro hst
    obtain ⟨hlt, hcrc⟩ := h.receiving hst
    refine ⟨hlt, ?_⟩
    rw [hst, crcFeedAll_append]
    exact congrArg (crcFeed · b) hcrc
  notYet := by
    rw [feedForward_state, feedForward_crcRx]
    exact h.notYet
  accepted := by
    rw [feedForward_state, feedForward_crc, feedForward_crcRx, feedForward_crcSnapshot]
    intro hst
    rw [crcIsFed_eq_false hst]
    exact h.accepted hst

/-! ### The states the agreement says nothing about, and the moves it does not see -/

/-- Outside the frame's fields nothing is claimed. -/
theorem crcAgrees_of_outside (hst : t.state = .idle ∨ t.state = .decoderError) : t.CrcAgrees := by
  rcases hst with hst | hst <;> exact ⟨by rw [hst]; nofun, by rw [hst]; nofun, by rw [hst]; nofun⟩

/-- Up to DATA the received sequence is still empty. -/
theorem crcAgrees_of_notYet (hst : beforeData t.state = true ∨ t.state = .data) (hrx : t.crcRx = 0) : t.CrcAgrees where
  receiving := fun h15 => by simp [h15, beforeData] at hst
  notYet := fun _ => hrx
  accepted := fun hafter => by
    rcases hst with hst | hst
    · cases hx : t.state <;> simp [hx, beforeData, afterCrc] at hst hafter
    · simp [hst, afterCrc] at hafter

/-- On entry to CRC15 the accumulator is the snapshot and nothing is received (R53). -/
theorem crcAgrees_of_entry (hst : t.state = .crc15) (hindex : t.fieldBitIndex = 0) (hrx : t.crcRx = 0)
    (hsnapshot : t.crcSnapshot = t.crc) : t.CrcAgrees where
  receiving := fun _ => by
    rw [hrx, hindex, hsnapshot]
    exact ⟨Nat.one_pos, rfl⟩
  notYet := by rw [hst]; nofun
  accepted := by rw [hst]; nofun

/-- Once the sequence was accepted nothing more is claimed than that it was. -/
theorem crcAgrees_of_accepted (hst : afterCrc t.state = true) (hcrc : t.crc = 0) (hrx : t.crcRx = t.crcSnapshot) :
    t.CrcAgrees where
  receiving := fun h15 => by simp [h15, afterCrc] at hst
  notYet := fun hbefore => by
    rcases hbefore with hbefore | hdata
    · cases hx : t.state <;> simp [hx, beforeData, afterCrc] at hbefore hst
    · simp [hdata, afterCrc] at hst
  accepted := fun _ => ⟨hcrc, hrx⟩

/-- A move within a state other than CRC15 that leaves the CRC registers alone. -/
theorem State.CrcFed.of_stay (h : u.CrcFed b) (hne : u.state ≠ .crc15) (hst : t.state = u.state) (hcrc : t.crc = u.crc)
    (hrx : t.crcRx = u.crcRx) (hsnapshot : t.crcSnapshot = u.crcSnapshot) : t.CrcAgrees where
  receiving := fun h15 => absurd (hst.symm.trans h15) hne
  notYet := by rw [hst, hrx]; exact h.notYet
  accepted := by rw [hst, hcrc, hrx, hsnapshot]; exact h.accepted

/-! ### Each handler row -/

theorem crcAgrees_crc15Bits (h : u.CrcFed b) (hst : u.state = .crc15) (hi : u.fieldBitIndex.toNat ≤ 13) :
    Completes State.CrcAgrees (exec (.crc15Bits b n) u) := by
  obtain ⟨hlt, hcrc⟩ := h.receiving hst
  have hindex := index_add_one (i := u.fieldBitIndex) (by omega)
  rw [← receivedBits_shiftIn _ _ (by omega)] at hcrc
  refine ⟨_, exec_crc15Bits b n u, ⟨fun _ => ?_, by rw [hst]; nofun, by rw [hst]; nofun⟩⟩
  dsimp only
  rw [hindex]
  exact ⟨shiftIn_lt (by omega) hlt b, hcrc⟩

/-- The fifteenth bit leaves residue 0 exactly when the sequence received is the snapshot (R234). -/
theorem crcAgrees_crc15Last (h : u.CrcFed b) (hst : u.state = .crc15) (hi : u.fieldBitIndex.toNat = 14) :
    Completes State.CrcAgrees (exec (.crc15Last b n) u) := by
  obtain ⟨-, hcrc⟩ := h.receiving hst
  rw [hi, ← receivedBits_shiftIn _ _ (by decide), receivedBits_fifteen] at hcrc
  by_cases hresidue : u.crc = 0
  · rw [hresidue, eq_comm, crcFeedAll_msbFirst_eq_zero_iff] at hcrc
    exact ⟨_, exec_crc15Last_of_zero b n u hresidue, crcAgrees_of_accepted rfl hresidue hcrc⟩
  · exact ⟨_, exec_crc15Last_of_ne_zero b n u hresidue, crcAgrees_of_outside (.inr rfl)⟩

theorem crcAgrees_controlDlcLast (hrx : u.crcRx = 0) :
    Completes State.CrcAgrees (exec (.controlDlcLast b n) u) := by
  refine ⟨_, exec_controlDlcLast b n u, ?_⟩
  split_ifs
  · exact crcAgrees_of_entry rfl rfl hrx rfl
  · exact crcAgrees_of_notYet (.inr rfl) hrx

theorem crcAgrees_data (hst : u.state = .data) (hpos : u.InData) (hrx : u.crcRx = 0) :
    Completes State.CrcAgrees (exec (.data b n) u) := by
  rcases bitInByte_lt_or_eq u.fieldBitIndex with hwithin | hend
  · exact ⟨_, exec_data_within b n u hpos hwithin, crcAgrees_of_notYet (.inr hst) hrx⟩
  by_cases hlast : (byteIndex u.fieldBitIndex).val + 1 = u.dataLen.toNat
  · exact ⟨_, exec_data_last b n u hpos hend hlast, crcAgrees_of_entry rfl rfl hrx rfl⟩
  · exact ⟨_, exec_data_byte b n u hpos hend hlast, crcAgrees_of_notYet (.inr hst) hrx⟩

theorem crcAgrees_decoderError (hst : u.state = .decoderError) :
    Completes State.CrcAgrees (execDecoderError b n u) := by
  rw [execDecoderError_eq]
  split_ifs
  · exact ⟨_, rfl, crcAgrees_of_outside (.inl rfl)⟩
  · exact ⟨_, rfl, crcAgrees_of_outside (.inr (by simp [hst]))⟩

/-- The handler of the position makes accumulator and received sequence agree again. -/
theorem State.CrcFed.runHandler (h : u.CrcFed b) (hpos : u.PositionLegal) (n : Sample) :
    Completes State.CrcAgrees (runHandler b n u) := by
  obtain ⟨i, hrow⟩ := hpos.exists_row
  rw [hrow.runHandler_eq]
  cases hrow with
  | idle hst =>
    cases b with
    | true => exact ⟨_, exec_idle_recessive n u, crcAgrees_of_outside (.inl hst)⟩
    | false => exact ⟨_, exec_idle_dominant n u, crcAgrees_of_notYet (.inl rfl) rfl⟩
  | identifierId hst => exact ⟨_, exec_identifierId b n u, h.of_stay (by simp [hst]) rfl rfl rfl rfl⟩
  | identifierRtr hst => exact ⟨_, exec_identifierRtr b n u, h.of_stay (by simp [hst]) rfl rfl rfl rfl⟩
  | identifierIde hst =>
    have hrx := h.notYet (.inl (by rw [hst]; rfl))
    cases b with
    | true => exact ⟨_, exec_identifierIde_recessive n u, crcAgrees_of_notYet (.inl rfl) hrx⟩
    | false => exact ⟨_, exec_identifierIde_dominant n u, crcAgrees_of_notYet (.inl rfl) hrx⟩
  | extIdentifierId hst => exact ⟨_, exec_extIdentifierId b n u, h.of_stay (by simp [hst]) rfl rfl rfl rfl⟩
  | extIdentifierRtr hst => exact ⟨_, exec_extIdentifierRtr b n u, h.of_stay (by simp [hst]) rfl rfl rfl rfl⟩
  | extIdentifierR1 hst =>
    have hrx := h.notYet (.inl (by rw [hst]; rfl))
    cases b with
    | true => exact ⟨_, exec_extIdentifierR1_recessive n u, crcAgrees_of_outside (.inr rfl)⟩
    | false => exact ⟨_, exec_extIdentifierR1_dominant n u, crcAgrees_of_notYet (.inl rfl) hrx⟩
  | controlR0 hst =>
    cases b with
    | true => exact ⟨_, exec_controlR0_recessive n u, h.of_stay (by simp [hst]) rfl rfl rfl rfl⟩
    | false => exact ⟨_, exec_controlR0_dominant n u, h.of_stay (by simp [hst]) rfl rfl rfl rfl⟩
  | controlDlc hst => exact ⟨_, exec_controlDlc b n u, h.of_stay (by simp [hst]) rfl rfl rfl rfl⟩
  | controlDlcLast hst => exact crcAgrees_controlDlcLast (h.notYet (.inl (by rw [hst]; rfl)))
  | data hst hdata => exact crcAgrees_data hst hdata (h.notYet (.inr hst))
  | crc15Bits hst hi => exact crcAgrees_crc15Bits h hst hi
  | crc15Last hst hi => exact crcAgrees_crc15Last h hst hi
  | crcDelimiter hst =>
    obtain ⟨hcrc, hrx⟩ := h.accepted (by rw [hst]; rfl)
    cases b with
    | true => exact ⟨_, exec_crcDelimiter_recessive n u, crcAgrees_of_accepted rfl hcrc hrx⟩
    | false => exact ⟨_, exec_crcDelimiter_dominant n u, crcAgrees_of_outside (.inr rfl)⟩
  | ackSlot hst => exact ⟨_, exec_ackSlot b n u, h.of_stay (by simp [hst]) rfl rfl rfl rfl⟩
  | ackDelimiter hst =>
    obtain ⟨hcrc, hrx⟩ := h.accepted (by rw [hst]; rfl)
    cases b with
    | true => exact ⟨_, exec_ackDelimiter_recessive n u, crcAgrees_of_accepted rfl hcrc hrx⟩
    | false => exact ⟨_, exec_ackDelimiter_dominant n u, crcAgrees_of_outside (.inr rfl)⟩
  | endOfFrame hst hi =>
    obtain ⟨hcrc, hrx⟩ := h.accepted (by rw [hst]; rfl)
    cases b with
    | true =>
      by_cases hlast : u.fieldBitIndex.toNat = 6
      · exact ⟨_, exec_endOfFrame_last n u hlast, crcAgrees_of_accepted rfl hcrc hrx⟩
      · exact ⟨_, exec_endOfFrame_stay n u (by omega), h.of_stay (by simp [hst]) rfl rfl rfl rfl⟩
    | false => exact ⟨_, exec_endOfFrame_dominant n u, crcAgrees_of_outside (.inr rfl)⟩
  | intermission hst hi =>
    cases b with
    | true =>
      by_cases hlast : u.fieldBitIndex.toNat = 2
      · exact ⟨_, exec_intermission_last n u hlast, crcAgrees_of_outside (.inl rfl)⟩
      · exact ⟨_, exec_intermission_stay n u (by omega), h.of_stay (by simp [hst]) rfl rfl rfl rfl⟩
    | false => exact ⟨_, exec_intermission_dominant n u, crcAgrees_of_outside (.inr rfl)⟩
  | decoderError hst => exact crcAgrees_decoderError hst

/-! ### A BitEvent and a step -/

theorem State.CrcAgrees.forward (h : s.CrcAgrees) (hpos : s.PositionLegal) (b : Bit) (n : Sample) :
    Completes State.CrcAgrees (forward b n s) :=
  (h.feedForward b).runHandler (by simpa [State.PositionLegal] using hpos) n

/-- A BitEvent keeps the agreement: the De-stuffer does not write the CRC registers. -/
theorem State.CrcAgrees.processBitEvent (h : s.CrcAgrees) (hinv : s.DecoderInv) (b : Bit) (n : Sample) :
    Completes State.CrcAgrees (processBitEvent b n s) := by
  rw [processBitEvent_eq_exec_destuffCase, destuffCase]
  split_ifs with herr
  · exact crcAgrees_decoderError herr
  · exact h.forward hinv.position b n
  · exact ⟨_, exec_dsStuffBit b n s, { h with }⟩
  · exact ⟨_, exec_dsViolation b n s, crcAgrees_of_outside (.inr rfl)⟩
  · exact State.CrcAgrees.forward (s := trackSame s) { h with } hinv.position b n
  · exact State.CrcAgrees.forward (s := trackRestart b s) { h with } hinv.position b n

theorem State.CrcAgrees.processBitEvents (h : s.CrcAgrees) (hinv : s.DecoderInv) (events : List (Bit × Sample)) :
    Completes (fun t => t.DecoderInv ∧ t.CrcAgrees) (processBitEvents events s) := by
  refine processBitEvents_keeps (E := fun _ => True) (fun b n u _ hu => ?_) events (fun _ _ => trivial) s ⟨hinv, h⟩
  obtain ⟨huinv, huagrees⟩ := hu
  obtain ⟨t, ht, hagrees⟩ := huagrees.processBitEvent huinv b n
  exact ⟨t, ht, (huinv.processBitEvent b n).of_next ht, hagrees⟩

theorem CommandEffect.crcAgrees {op : BitVec 3} (he : CommandEffect s op (.next t)) (h : s.Inv) (hagrees : s.CrcAgrees) :
    t.CrcAgrees := by
  cases he with
  | discarded => exact hagrees
  | nothing => exact hagrees
  | resets => exact crcAgrees_of_outside (.inl rfl)
  | refuses => exact { hagrees with }
  | configures => exact crcAgrees_of_outside (.inl rfl)
  | extracts hmode events ho =>
    have harmed : ({ s with armed := true } : State).CrcAgrees := { hagrees with }
    exact ((harmed.processBitEvents h.decoderInv_armed events).of_next ho).2

/-- Settles O48: each command keeps the agreement, a SEG by its BitEvents one by one. -/
theorem everyStepKeepsTheCrcAgreement : Obligations.EveryStepKeepsTheCrcAgreement := by
  unfold Obligations.EveryStepKeepsTheCrcAgreement
  intro s t h hagrees ht
  cases hcmd : s.cmdIn with
  | nil =>
    rw [step_nil hcmd] at ht
    cases ht
    exact hagrees
  | cons w rest =>
    rw [step_cons hcmd] at ht
    exact (ht ▸ commandEffect w _).crcAgrees (h.with_cmdIn rest) { hagrees with }

end
end Sys2Proof.Machine

namespace Sys2Proof.Machine

/-! ## Handlers and positions (R31, R32, R180, R204) -/

section
variable {b : Bit} {n : Sample} {s t : State} {i : Bit → Sample → Instr}

/-- A row that stands at a position is not one of the unreachable ones. -/
theorem State.AtRow.ne_unreachable (h : s.AtRow i) (b : Bit) (n : Sample) :
    i b n ≠ .stateUnreachable11 b n ∧ ∀ c, i b n ≠ .stateUnreachable12To15 c b n := by
  cases h <;> exact ⟨nofun, nofun⟩

theorem exists_next_data (hpos : s.InData) : ∃ t, exec (.data b n) s = .next t := by
  rcases bitInByte_lt_or_eq s.fieldBitIndex with hwithin | hend
  · exact ⟨_, exec_data_within b n s hpos hwithin⟩
  by_cases hlast : (byteIndex s.fieldBitIndex).val + 1 = s.dataLen.toNat
  · exact ⟨_, exec_data_last b n s hpos hend hlast⟩
  · exact ⟨_, exec_data_byte b n s hpos hend hlast⟩

/-- The handler of a position completes there, whatever else the state holds. -/
theorem State.AtRow.exists_next (h : s.AtRow i) (b : Bit) (n : Sample) : ∃ t, exec (i b n) s = .next t := by
  cases h with
  | idle => cases b <;> exact ⟨_, rfl⟩
  | identifierId => exact ⟨_, rfl⟩
  | identifierRtr => exact ⟨_, rfl⟩
  | identifierIde => cases b <;> exact ⟨_, rfl⟩
  | extIdentifierId => exact ⟨_, rfl⟩
  | extIdentifierRtr => exact ⟨_, rfl⟩
  | extIdentifierR1 => cases b <;> exact ⟨_, rfl⟩
  | controlR0 => cases b <;> exact ⟨_, rfl⟩
  | controlDlc => exact ⟨_, rfl⟩
  | controlDlcLast => exact ⟨_, rfl⟩
  | data _ hpos => exact exists_next_data hpos
  | crc15Bits => exact ⟨_, rfl⟩
  | crc15Last =>
    by_cases hcrc : s.crc = 0
    · exact ⟨_, exec_crc15Last_of_zero b n s hcrc⟩
    · exact ⟨_, exec_crc15Last_of_ne_zero b n s hcrc⟩
  | crcDelimiter => cases b <;> exact ⟨_, rfl⟩
  | ackSlot => exact ⟨_, rfl⟩
  | ackDelimiter => cases b <;> exact ⟨_, rfl⟩
  | endOfFrame _ hi =>
    cases b with
    | false => exact ⟨_, rfl⟩
    | true =>
      rcases Nat.lt_or_eq_of_le hi with hstay | hlast
      · exact ⟨_, exec_endOfFrame_stay n s hstay⟩
      · exact ⟨_, exec_endOfFrame_last n s hlast⟩
  | intermission _ hi =>
    cases b with
    | false => exact ⟨_, rfl⟩
    | true =>
      rcases Nat.lt_or_eq_of_le hi with hstay | hlast
      · exact ⟨_, exec_intermission_stay n s hstay⟩
      · exact ⟨_, exec_intermission_last n s hlast⟩
  | decoderError =>
    by_cases hexit : b = true ∧ 11 ≤ (trackRaw b s).runLength.toNat
    · exact ⟨_, (execDecoderError_eq b n s).trans (if_pos hexit)⟩
    · exact ⟨_, (execDecoderError_eq b n s).trans (if_neg hexit)⟩

theorem lt_of_execData_next (h : execData b n s = .next t) : s.fieldBitIndex.toNat < 8 * s.dataLen.toNat := by
  unfold execData at h
  split_ifs at h with hindex
  all_goals exact hindex.1

/-- A handler that runs to a next state runs at an index of its state. -/
theorem index_lt_of_runHandler_next (h : runHandler b n s = .next t) :
    s.fieldBitIndex.toNat < s.state.positions s.dataLen := by
  unfold runHandler at h
  cases hst : s.state <;> rw [hst] at h <;> dsimp only [FieldState.positions] at h ⊢
  case data =>
    split_ifs at h
    exact lt_of_execData_next h
  case unused11 => cases h
  case unused12 => cases h
  case unused13 => cases h
  case unused14 => cases h
  case unused15 => cases h
  all_goals split_ifs at h <;> omega

/-- Settles O4, by the row at the position. -/
theorem handlersRunExactlyAtLegalPositions : Obligations.HandlersRunExactlyAtLegalPositions := by
  unfold Obligations.HandlersRunExactlyAtLegalPositions
  refine fun s b n => ⟨fun hpos => ?_, fun t ht => index_lt_of_runHandler_next ht⟩
  obtain ⟨i, hrow⟩ := hpos.exists_row
  obtain ⟨t, ht⟩ := hrow.exists_next b n
  obtain ⟨hne11, hne12⟩ := hrow.ne_unreachable b n
  exact ⟨i b n, t, hrow.decode_eq b n, ht, hne11, hne12⟩

/-- A bit forwarded at a legal position runs to a next state. -/
theorem State.PositionLegal.exists_forward (h : s.PositionLegal) (b : Bit) (n : Sample) :
    ∃ t, forward b n s = .next t := by
  have hfed : (feedForward b s).PositionLegal := by simpa [State.PositionLegal] using h
  obtain ⟨i, hrow⟩ := hfed.exists_row
  obtain ⟨t, ht⟩ := hrow.exists_next b n
  exact ⟨t, (hrow.runHandler_eq b n).trans ht⟩

/-- Each forwarding case is a bit forwarded after the tracker was written or left (R161, R164, R165). -/
theorem exec_forwarding {i : Instr} (hi : i = .dsInactive b n ∨ i = .dsSame b n ∨ i = .dsChange b n) :
    ∃ u, BitEventFrame s u ∧ (s.PositionLegal → u.PositionLegal) ∧ exec i s = forward b n u := by
  rcases hi with rfl | rfl | rfl
  · exact ⟨s, .refl s, id, rfl⟩
  · exact ⟨trackSame s, frame_trackSame s, id, rfl⟩
  · exact ⟨trackRestart b s, frame_trackRestart b s, id, rfl⟩

/-- Settles O22. -/
theorem forwardingCasesComplete : Obligations.ForwardingCasesComplete := by
  unfold Obligations.ForwardingCasesComplete
  intro b n s i hpos hi
  obtain ⟨u, hframe, hlegal, hexec⟩ := exec_forwarding (s := s) hi
  obtain ⟨t, ht⟩ := (hlegal hpos).exists_forward b n
  obtain ⟨hmode, hcode, harmed, hbitRate, hrate, hinverted, hperiod, hcmd, hmarkers, -, -⟩ :=
    hframe.trans (frame_forward ht)
  exact ⟨t, hexec.trans ht, hmode, hcode, harmed, hbitRate, hrate, hinverted, hperiod, hcmd, hmarkers⟩

theorem crcIsFed_iff (x : FieldState) :
    crcIsFed x = true ↔ x ∈ [FieldState.identifier, .extIdentifier, .control, .data, .crc15] := by
  cases x <;> decide

/-- Settles O23: feeding leaves the position, so the handler selected stays the same. -/
theorem forwardFeedsTheCrcThenRunsTheHandler : Obligations.ForwardFeedsTheCrcThenRunsTheHandler := by
  unfold Obligations.ForwardFeedsTheCrcThenRunsTheHandler
  intro b n s i hdecode
  have hforward : forward b n s = exec i (feedForward b s) :=
    runHandler_of_decode (by rw [feedForward_state, feedForward_fieldBitIndex]; exact hdecode)
  rw [hforward, ← crcIsFed_iff, feedForward]
  exact ⟨fun hfed => by rw [if_pos hfed], fun hnot => by rw [if_neg hnot]⟩

/-- Settles O41. -/
theorem unreachablePositionsStopByName : Obligations.UnreachablePositionsStopByName := by
  unfold Obligations.UnreachablePositionsStopByName
  intro c b n s
  refine ⟨rfl, rfl, fun hindex => if_neg ?_, rfl, fun hc => ?_⟩
  · rintro ⟨hlt, -⟩
    omega
  · exact Laws.RoundTrip.stateUnreachable12To15 c b n (decide_eq_true hc)

end

/-! ## One marker and at most one record for a bit (R70, R202) -/

/-- From `s` to `t` one marker was emitted, and at most one record, which ends at the bit's sample number. -/
structure ReportsBit (b : Bit) (n : Sample) (s t : State) : Prop where
  record : t.recOut = s.recOut ∨ ∃ r, t.recOut = s.recOut ++ [r] ∧ r.last = n
  marker : ∃ cls, t.mrkOut = s.markersWith cls b n

section
variable {b : Bit} {n : Sample} {s t u : State}

theorem reportsBit_data (hpos : u.InData) : Completes (ReportsBit b n u) (exec (.data b n) u) := by
  rcases bitInByte_lt_or_eq u.fieldBitIndex with hwithin | hend
  · exact ⟨_, exec_data_within b n u hpos hwithin, .inl rfl, _, rfl⟩
  by_cases hlast : (byteIndex u.fieldBitIndex).val + 1 = u.dataLen.toNat
  · exact ⟨_, exec_data_last b n u hpos hend hlast, .inr ⟨_, rfl, rfl⟩, _, rfl⟩
  · exact ⟨_, exec_data_byte b n u hpos hend hlast, .inr ⟨_, rfl, rfl⟩, _, rfl⟩

theorem reportsBit_decoderError (b : Bit) (n : Sample) (u : State) :
    Completes (ReportsBit b n u) (execDecoderError b n u) := by
  rw [execDecoderError_eq]
  split_ifs
  · exact ⟨_, rfl, .inr ⟨_, rfl, rfl⟩, _, rfl⟩
  · exact ⟨_, rfl, .inl (by simp), .error, by simp [State.markersWith]⟩

/-- Every handler reports its bit, but IDLE's a recessive one. -/
theorem reportsBit_runHandler (hpos : u.PositionLegal) (hbit : u.state ≠ .idle ∨ b = false) :
    Completes (ReportsBit b n u) (runHandler b n u) := by
  obtain ⟨i, hrow⟩ := hpos.exists_row
  rw [hrow.runHandler_eq]
  cases hrow with
  | idle hst =>
    obtain rfl : b = false := hbit.resolve_left (not_not.2 hst)
    exact ⟨_, exec_idle_dominant n u, .inl rfl, _, rfl⟩
  | identifierId => exact ⟨_, exec_identifierId b n u, .inl rfl, _, rfl⟩
  | identifierRtr => exact ⟨_, exec_identifierRtr b n u, .inl rfl, _, rfl⟩
  | identifierIde =>
    cases b with
    | true => exact ⟨_, exec_identifierIde_recessive n u, .inl rfl, _, rfl⟩
    | false => exact ⟨_, exec_identifierIde_dominant n u, .inr ⟨_, rfl, rfl⟩, _, rfl⟩
  | extIdentifierId => exact ⟨_, exec_extIdentifierId b n u, .inl rfl, _, rfl⟩
  | extIdentifierRtr => exact ⟨_, exec_extIdentifierRtr b n u, .inl rfl, _, rfl⟩
  | extIdentifierR1 =>
    cases b with
    | true => exact ⟨_, exec_extIdentifierR1_recessive n u, .inl rfl, _, rfl⟩
    | false => exact ⟨_, exec_extIdentifierR1_dominant n u, .inr ⟨_, rfl, rfl⟩, _, rfl⟩
  | controlR0 =>
    cases b with
    | true => exact ⟨_, exec_controlR0_recessive n u, .inr ⟨_, rfl, rfl⟩, _, rfl⟩
    | false => exact ⟨_, exec_controlR0_dominant n u, .inl rfl, _, rfl⟩
  | controlDlc => exact ⟨_, exec_controlDlc b n u, .inl rfl, _, rfl⟩
  | controlDlcLast => exact ⟨_, exec_controlDlcLast b n u, .inr ⟨_, rfl, rfl⟩, _, rfl⟩
  | data _ hdata => exact reportsBit_data hdata
  | crc15Bits => exact ⟨_, exec_crc15Bits b n u, .inl rfl, _, rfl⟩
  | crc15Last =>
    by_cases hcrc : u.crc = 0
    · exact ⟨_, exec_crc15Last_of_zero b n u hcrc, .inr ⟨_, rfl, rfl⟩, _, rfl⟩
    · exact ⟨_, exec_crc15Last_of_ne_zero b n u hcrc, .inr ⟨_, rfl, rfl⟩, _, rfl⟩
  | crcDelimiter =>
    cases b with
    | true => exact ⟨_, exec_crcDelimiter_recessive n u, .inl rfl, _, rfl⟩
    | false => exact ⟨_, exec_crcDelimiter_dominant n u, .inl rfl, _, rfl⟩
  | ackSlot => exact ⟨_, exec_ackSlot b n u, .inl rfl, _, rfl⟩
  | ackDelimiter =>
    cases b with
    | true => exact ⟨_, exec_ackDelimiter_recessive n u, .inr ⟨_, rfl, rfl⟩, _, rfl⟩
    | false => exact ⟨_, exec_ackDelimiter_dominant n u, .inl rfl, _, rfl⟩
  | endOfFrame _ hi =>
    cases b with
    | true =>
      rcases Nat.lt_or_eq_of_le hi with hstay | hlast
      · exact ⟨_, exec_endOfFrame_stay n u hstay, .inl rfl, _, rfl⟩
      · exact ⟨_, exec_endOfFrame_last n u hlast, .inr ⟨_, rfl, rfl⟩, _, rfl⟩
    | false => exact ⟨_, exec_endOfFrame_dominant n u, .inl rfl, _, rfl⟩
  | intermission _ hi =>
    cases b with
    | true =>
      rcases Nat.lt_or_eq_of_le hi with hstay | hlast
      · exact ⟨_, exec_intermission_stay n u hstay, .inl rfl, _, rfl⟩
      · exact ⟨_, exec_intermission_last n u hlast, .inr ⟨_, rfl, rfl⟩, _, rfl⟩
    | false => exact ⟨_, exec_intermission_dominant n u, .inl rfl, _, rfl⟩
  | decoderError => exact reportsBit_decoderError b n u

/-- The CRC engine and the tracker write none of what a report is judged by. -/
theorem ReportsBit.of_ports_eq (h : ReportsBit b n u t) (hrec : u.recOut = s.recOut) (hmrk : u.mrkOut = s.mrkOut)
    (hmarkers : u.hasMarkers = s.hasMarkers) : ReportsBit b n s t := by
  obtain ⟨hrecord, hmarker⟩ := h
  rw [hrec] at hrecord
  simp only [State.markersWith, hmrk, hmarkers] at hmarker
  exact ⟨hrecord, hmarker⟩

theorem reportsBit_forward (hpos : u.PositionLegal) (hbit : u.state ≠ .idle ∨ b = false) :
    Completes (ReportsBit b n u) (forward b n u) :=
  (reportsBit_runHandler (u := feedForward b u) (by simpa [State.PositionLegal] using hpos)
    (by simpa using hbit)).mono fun _ ht => ht.of_ports_eq (by simp) (by simp) (by simp)

/-- Every BitEvent reports its bit, but a recessive one in IDLE. -/
theorem reportsBit_processBitEvent (hpos : s.PositionLegal) (hbit : s.state ≠ .idle ∨ b = false) :
    Completes (ReportsBit b n s) (processBitEvent b n s) := by
  rw [processBitEvent_eq_exec_destuffCase, destuffCase]
  split_ifs
  · exact reportsBit_decoderError b n s
  · exact reportsBit_forward hpos hbit
  · exact ⟨_, exec_dsStuffBit b n s, .inl rfl, _, rfl⟩
  · exact ⟨_, exec_dsViolation b n s, .inl rfl, _, rfl⟩
  · exact (reportsBit_forward (u := trackSame s) hpos hbit).mono fun _ ht => ht.of_ports_eq rfl rfl rfl
  · exact (reportsBit_forward (u := trackRestart b s) hpos hbit).mono fun _ ht => ht.of_ports_eq rfl rfl rfl

/-- A recessive bit in IDLE changes nothing (R182). -/
theorem State.Idle.processBitEvent_recessive (h : s.Idle) (n : Sample) : processBitEvent true n s = .next s := by
  rw [← processBitEvents_singleton]
  exact h.processBitEvents_recessive [(true, n)] (by simp)

/-- Settles O50. -/
theorem oneMarkerAndAtMostOneRecordPerBit : Obligations.OneMarkerAndAtMostOneRecordPerBit := by
  unfold Obligations.OneMarkerAndAtMostOneRecordPerBit
  intro b n s t h ht
  by_cases hquiet : s.state = .idle ∧ b = true
  · obtain ⟨hst, rfl⟩ := hquiet
    rw [(h.idle hst).processBitEvent_recessive] at ht
    cases ht
    exact ⟨.inl rfl, (if_pos ⟨hst, rfl⟩).mpr rfl⟩
  · have hbit : s.state ≠ .idle ∨ b = false := (not_and_or.1 hquiet).imp_right eq_false_of_ne_true
    obtain ⟨hrecord, hmarker⟩ := (reportsBit_processBitEvent h.position hbit).of_next ht
    exact ⟨hrecord, (if_neg hquiet).mpr hmarker⟩

end
end Sys2Proof.Machine

namespace Sys2Proof.Machine

/-! ## The statements about commands and steps (R66, R67, R120 to R126, R275) -/

/-- Settles O5. -/
theorem powerUpHoldsTheResetTable : Obligations.PowerUpHoldsTheResetTable := ⟨rfl, rfl, rfl, rfl⟩

/-- Settles O6. -/
theorem resetCommandGivesEveryRegisterItsResetValue : Obligations.ResetCommandGivesEveryRegisterItsResetValue :=
  exec_reset

/-- The sampling period of an accepted CONFIG is the ratio of its two rates, at least 5 (R24, R124). -/
theorem samplesPerBit_configure (v : Bool) {rate : BitVec 32} {bitRate : BitVec 20} (hlegal : LegalConfig rate bitRate)
    (s : State) :
    (configure v rate bitRate s).samplesPerBit.toNat = rate.toNat / bitRate.toNat ∧
      5 ≤ (configure v rate bitRate s).samplesPerBit.toNat := by
  obtain ⟨-, -, -, hquot⟩ := configured_configure v hlegal s
  obtain ⟨hmin, -, hratio⟩ := hlegal
  replace hquot : (configure v rate bitRate s).samplesPerBit.toNat = rate.toNat / bitRate.toNat := hquot
  exact ⟨hquot, hquot ▸ (Nat.le_div_iff_mul_le hmin).2 hratio⟩

/-- Settles O8, check by check. -/
theorem configIsCheckedThenBeginsASession : Obligations.ConfigIsCheckedThenBeginsASession := by
  unfold Obligations.ConfigIsCheckedThenBeginsASession
  intro z v rate bitRate s hmode
  refine ⟨exec_config_of_reserved hmode, exec_config_of_range hmode, exec_config_of_ratio hmode,
    fun hz hmin hmax hratio => ?_⟩
  have hlegal : LegalConfig rate bitRate := ⟨hmin, hmax, hratio⟩
  obtain ⟨hquot, hfive⟩ := samplesPerBit_configure v hlegal s
  exact ⟨_, exec_config_of_legal hmode hz hlegal, hquot, hfive, rfl⟩

/-- An opcode that is none of the four commands is reserved, payload and all (R82, R87). -/
theorem decodeCommand_of_reserved {w : CmdWord} (h : 4 ≤ (opcodeOf w).toNat) :
    decodeCommand w = .reservedOp (opcodeOf w) (payloadOf w) := by
  have hcommand := isCommand_decodeCommand w
  generalize decodeCommand w = i at hcommand
  cases hcommand with
  | reservedOp => rfl
  | nop hop => simp [hop] at h
  | reset hop => simp [hop] at h
  | config hop => simp [hop] at h
  | seg hop => simp [hop] at h

/-- Settles O9. -/
theorem reservedOpcodeIsRefused : Obligations.ReservedOpcodeIsRefused := by
  unfold Obligations.ReservedOpcodeIsRefused
  refine fun op p s hop hmode => ⟨exec_reservedOp hmode op p, ?_⟩
  rintro w rfl
  exact congrArg Except.ok (decodeCommand_of_reserved hop)

/-- Settles O10. -/
theorem illegalSegIsRefused : Obligations.IllegalSegIsRefused := by
  unfold Obligations.IllegalSegIsRefused
  exact fun l a e s => ⟨fun hmode => exec_seg_of_unconfigured hmode l a e,
    fun hmode hae => exec_seg_of_order hmode l hae⟩

/-- Settles O11: each of the four commands stands behind the guard of R120. -/
theorem faultModeDiscardsAllButReset : Obligations.FaultModeDiscardsAllButReset := by
  unfold Obligations.FaultModeDiscardsAllButReset
  intro i s hi hfault
  cases i with
  | nop => exact unlessFault_of_fault hfault _
  | config => exact unlessFault_of_fault hfault _
  | seg => exact unlessFault_of_fault hfault _
  | reservedOp => exact unlessFault_of_fault hfault _
  | _ => cases hi

/-- Settles O12. -/
theorem firstDominantSegmentIsSkipped : Obligations.FirstDominantSegmentIsSkipped := by
  unfold Obligations.FirstDominantSegmentIsSkipped
  intro l a e s hmode hae harmed hl
  rw [exec_seg_of_run hmode l hae]
  exact extract_of_skipped harmed (by rw [bitValue, hl, Bool.xor_self]) a e

/-- Settles O17. -/
theorem stepRunsTheDecodedCommand : Obligations.StepRunsTheDecodedCommand := by
  unfold Obligations.StepRunsTheDecodedCommand
  refine fun s => ⟨step_nil, fun w rest i hcmd hdecode => ?_⟩
  cases hdecode
  exact step_cons hcmd

/-! ### SEG -/

theorem length_segmentEvents (v : Bit) (a e : Sample) (S : BitVec 32) :
    (segmentEvents v a e S).length = bitCount (e.toNat - a.toNat) S.toNat := by
  simp [segmentEvents]

theorem getElem_segmentEvents (v : Bit) (a e : Sample) (S : BitVec 32) (k : Nat)
    (hk : k < (segmentEvents v a e S).length) : (segmentEvents v a e S)[k] = (v, samplePoint a S k) := by
  simp [segmentEvents]

/-- Settles O13: the events are those of step 5 of R140. -/
theorem admittedSegProcessesItsEventsInOrder : Obligations.AdmittedSegProcessesItsEventsInOrder := by
  unfold Obligations.AdmittedSegProcessesItsEventsInOrder
  intro l a e s hmode hae hS hadmitted
  have hnotSkipped : s.armed = true ∨ bitValue l s.cfgInverted = true :=
    hadmitted.imp_right fun hl => Bool.xor_iff_ne.2 hl
  refine ⟨segmentEvents (bitValue l s.cfgInverted) a e s.samplesPerBit, ?_, length_segmentEvents _ _ _ _,
    fun k hk => ?_⟩
  · rw [exec_seg_of_run hmode l hae, extract_of_admitted hnotSkipped hS]
  · rw [getElem_segmentEvents]
    exact ⟨rfl, BitVec.toNat_ofNat _ _⟩

/-- Settles O14. -/
theorem admittedSegCompletes : Obligations.AdmittedSegCompletes := by
  unfold Obligations.AdmittedSegCompletes
  intro l a e s h hmode hae
  have hfive := h.five_le_samplesPerBit hmode
  have hS : s.samplesPerBit ≠ 0 := fun hzero => by simp [hzero] at hfive
  obtain ⟨events, hevents⟩ := exists_events_of_extract hS l a e
  obtain ⟨t, ht, hinv, f⟩ := h.extracts hmode events
  exact ⟨t, (exec_seg_of_run hmode l hae).trans (hevents.trans ht), hinv, f.armed, f.mode.trans hmode, f.faultCode,
    f.cfgBitRateHz, f.cfgSampleRateHz, f.cfgInverted, f.samplesPerBit, f.cmdIn, f.hasMarkers, f.recOut, f.mrkOut⟩

/-- Settles O15: the quotient is `n` exactly when the dividend lies in the `n`-th interval of length `2·S`. -/
theorem bitCountRoundsToNearest : Obligations.BitCountRoundsToNearest := by
  unfold Obligations.BitCountRoundsToNearest
  intro run S n hS
  have hlower : n * (2 * S) = 2 * n * S := by ring
  have hupper : (2 * n + 1) * S + S = 2 * n * S + 2 * S := by ring
  rw [bitCount, Nat.div_eq_iff (by omega), hlower]
  omega

/-- The `k`-th sample point of a segment lies within it. -/
theorem sample_offset_le {run S k : Nat} (hS : 0 < S) (hk : k < bitCount run S) : S / 2 + k * S ≤ run := by
  have hdividend : (k + 1) * (2 * S) ≤ 2 * run + S := (Nat.le_div_iff_mul_le (by omega)).1 hk
  have hexpand : (k + 1) * (2 * S) = 2 * (k * S) + 2 * S := by ring
  omega

theorem samplePoint_toNat {a e : Sample} {S : BitVec 32} {k : Nat} (hae : a.toNat < e.toNat) (hS : 0 < S.toNat)
    (hk : k < bitCount (e.toNat - a.toNat) S.toNat) :
    (samplePoint a S k).toNat = a.toNat + S.toNat / 2 + k * S.toNat ∧
      a.toNat + S.toNat / 2 + k * S.toNat ≤ e.toNat := by
  have hoffset := sample_offset_le hS hk
  have he := e.isLt
  have hle : a.toNat + S.toNat / 2 + k * S.toNat ≤ e.toNat := by omega
  exact ⟨toNat_ofNat_sample (hle.trans_lt he), hle⟩

/-- Settles O16. -/
theorem eventsStayWithinTheirSegment : Obligations.EventsStayWithinTheirSegment := by
  unfold Obligations.EventsStayWithinTheirSegment
  intro a e S k hae hS0 hk
  have hS : 0 < S.toNat := Nat.pos_of_ne_zero fun h0 => hS0 (BitVec.eq_of_toNat_eq h0)
  obtain ⟨hpoint, hle⟩ := samplePoint_toNat hae hS hk
  refine ⟨hpoint, hpoint.trans_le hle, fun hnext => ?_⟩
  rw [hpoint, (samplePoint_toNat hae hS hnext).1]
  ring

/-! ### What a step keeps of the ports and the mode -/

section
variable {s t : State} {op : BitVec 3}

/-- No command retracts what was emitted, and each but the step itself leaves CMD alone. -/
theorem CommandEffect.ports (he : CommandEffect s op (.next t)) :
    s.recOut <+: t.recOut ∧ s.mrkOut <+: t.mrkOut ∧ t.cmdIn = s.cmdIn ∧ t.hasMarkers = s.hasMarkers := by
  cases he with
  | discarded => exact ⟨List.prefix_rfl, List.prefix_rfl, rfl, rfl⟩
  | nothing => exact ⟨List.prefix_rfl, List.prefix_rfl, rfl, rfl⟩
  | resets => exact ⟨List.prefix_rfl, List.prefix_rfl, rfl, rfl⟩
  | refuses => exact ⟨List.prefix_rfl, List.prefix_rfl, rfl, rfl⟩
  | configures => exact ⟨List.prefix_rfl, List.prefix_rfl, rfl, rfl⟩
  | extracts _ _ ho =>
    have f := frame_processBitEvents ho
    exact ⟨f.recOut, f.mrkOut, f.cmdIn, f.hasMarkers⟩

/-- Settles O51. -/
theorem outputIsAppendOnly : Obligations.OutputIsAppendOnly := by
  unfold Obligations.OutputIsAppendOnly
  intro s t ht
  cases hcmd : s.cmdIn with
  | nil =>
    rw [step_nil hcmd] at ht
    cases ht
    exact ⟨List.prefix_rfl, List.prefix_rfl, hcmd, rfl⟩
  | cons w rest =>
    rw [step_cons hcmd] at ht
    exact (ht ▸ commandEffect w _).ports

/-- In FAULT a command is discarded unless it is a RESET (R120). -/
theorem CommandEffect.of_fault (he : CommandEffect s op (.next t)) (hfault : s.mode = .fault) :
    t = s ∨ (op = 0b001 ∧ t.mode = .unconfigured ∧ t.faultCode = .none) := by
  cases he with
  | discarded => exact .inl rfl
  | nothing => exact .inl rfl
  | resets => exact .inr ⟨rfl, rfl, rfl⟩
  | refuses _ hmode => exact absurd hfault hmode
  | configures hmode => exact absurd hfault hmode
  | extracts hmode => simp [hmode] at hfault

/-- Outside FAULT each mode is entered by its command (R275). -/
theorem CommandEffect.mode_moves (he : CommandEffect s op (.next t)) (hmode : s.mode ≠ .fault) :
    (t.mode = .unconfigured → op = 0b001 ∨ (s.mode = .unconfigured ∧ op = 0b000)) ∧
    (t.mode = .run → op = 0b010 ∨ (s.mode = .run ∧ (op = 0b000 ∨ op = 0b011))) ∧
    (t.mode = .fault → t = { s with mode := .fault, faultCode := t.faultCode } ∧ t.faultCode ≠ .none) := by
  cases he with
  | discarded _ hfault => exact absurd hfault hmode
  | nothing => exact ⟨fun h => .inr ⟨h, rfl⟩, fun h => .inr ⟨h, .inl rfl⟩, fun h => absurd h hmode⟩
  | resets => exact ⟨fun _ => .inl rfl, nofun, nofun⟩
  | refuses _ _ _ hcode => exact ⟨nofun, nofun, fun _ => ⟨rfl, hcode⟩⟩
  | configures => exact ⟨nofun, fun _ => .inl rfl, nofun⟩
  | extracts hrun _ ho =>
    have htrun : t.mode = .run := (frame_processBitEvents ho).mode.trans hrun
    rw [htrun]
    exact ⟨nofun, fun _ => .inr ⟨hrun, .inr rfl⟩, nofun⟩

/-- Settles O53. -/
theorem modesMoveByCommandsOnly : Obligations.ModesMoveByCommandsOnly := by
  unfold Obligations.ModesMoveByCommandsOnly
  intro s t w rest hcmd ht
  rw [step_cons hcmd] at ht
  have he : CommandEffect { s with cmdIn := rest } (opcodeOf w) (.next t) := ht ▸ commandEffect w _
  exact ⟨he.of_fault, he.mode_moves⟩

end
end Sys2Proof.Machine

namespace Sys2Proof

/-! ## Command words (R81 to R87) -/

theorem commandWord_opcodeOf_payloadOf (w : CmdWord) : commandWord (opcodeOf w) (payloadOf w) = w := by
  apply BitVec.eq_of_getLsbD_eq
  intro i hi
  rw [getLsbD_commandWord, opcodeOf, payloadOf, BitVec.getLsbD_extractLsb', BitVec.getLsbD_extractLsb']
  by_cases hlow : i < 129
  · simp [hlow]
  · simp [hlow, show i - 129 < 3 by omega, show 129 + (i - 129) = i by omega]

/-- A payload is put together again from CONFIG's fields (R85). -/
theorem configPayload_fields (w : CmdWord) :
    configPayload (w.extractLsb' 53 76) (w.getLsbD 52) (w.extractLsb' 20 32) (w.extractLsb' 0 20) = payloadOf w := by
  apply BitVec.eq_of_getLsbD_eq
  intro i hi
  rw [getLsbD_configPayload]
  simp only [payloadOf, BitVec.getLsbD_extractLsb', Nat.zero_add, hi, decide_true, Bool.true_and]
  split_ifs with h20 h52 hv
  · simp [h20]
  · simp [show i - 20 < 32 by omega, show 20 + (i - 20) = i by omega]
  · rw [hv]
  · simp [show i - 53 < 76 by omega, show 53 + (i - 53) = i by omega]

/-- A payload is put together again from SEG's fields (R86). -/
theorem segPayload_fields (w : CmdWord) :
    segPayload (w.getLsbD 128) (w.extractLsb' 64 64) (w.extractLsb' 0 64) = payloadOf w := by
  apply BitVec.eq_of_getLsbD_eq
  intro i hi
  rw [getLsbD_segPayload _ _ _ _ hi]
  simp only [payloadOf, BitVec.getLsbD_extractLsb', Nat.zero_add, hi, decide_true, Bool.true_and]
  split_ifs with h64 h128
  · simp [h64]
  · simp [show i - 64 < 64 by omega, show 64 + (i - 64) = i by omega]
  · rw [show i = 128 by omega]

/-- Settles O2: each command's fields are all the bits of its word. -/
theorem everyCommandWordIsOneCommand : Obligations.EveryCommandWordIsOneCommand := by
  unfold Obligations.EveryCommandWordIsOneCommand
  intro w
  have hword := commandWord_opcodeOf_payloadOf w
  have hcommand := Machine.isCommand_decodeCommand w
  generalize decodeCommand w = i at hcommand
  cases hcommand with
  | nop hop => exact ⟨rfl, congrArg FetchWord.cmd (hop ▸ hword)⟩
  | reset hop => exact ⟨rfl, congrArg FetchWord.cmd (hop ▸ hword)⟩
  | config hop =>
    refine ⟨rfl, congrArg FetchWord.cmd ?_⟩
    rw [configPayload_fields, ← hop, hword]
  | seg hop =>
    refine ⟨rfl, congrArg FetchWord.cmd ?_⟩
    rw [segPayload_fields, ← hop, hword]
  | reservedOp hop => exact ⟨decide_eq_true hop, congrArg FetchWord.cmd hword⟩

/-- Settles O3: the decoder, evaluated at each of the eight words. -/
theorem writtenWordsDecodeToTheirInstructions : Obligations.WrittenWordsDecodeToTheirInstructions := by
  unfold Obligations.WrittenWordsDecodeToTheirInstructions
  decide

end Sys2Proof

namespace Sys2Proof.Machine

/-! ## Nothing depends on markers (R104, R277)

A meaning ignores markers when it answers the same, markers left out, from a state and from that state without markers.
Emitting a marker is invisible there, every other operation does not touch the MRK port, and sequencing keeps it. -/

/-- The meaning answers the same, markers left out, whatever the MRK port of the state holds. -/
def IgnoresMarkers (f : State → Result) : Prop :=
  ∀ s, resultWithoutMarkers (f s) = resultWithoutMarkers (f s.withoutMarkers)

/-- A choice by a condition that does not read the MRK port. -/
theorem IgnoresMarkers.ite {c : State → Prop} [∀ s, Decidable (c s)] {f g : State → Result}
    (hc : ∀ s, c s ↔ c s.withoutMarkers) (hf : IgnoresMarkers f) (hg : IgnoresMarkers g) :
    IgnoresMarkers fun s => if c s then f s else g s := by
  intro s
  by_cases h : c s
  · simpa only [if_pos h, if_pos ((hc s).1 h)] using hf s
  · simpa only [if_neg h, if_neg (mt (hc s).2 h)] using hg s

/-- A meaning that ignores markers, after an operation on states that does. -/
theorem IgnoresMarkers.comp {f : State → Result} (hf : IgnoresMarkers f) {g : State → State}
    (hg : ∀ s, (g s).withoutMarkers = (g s.withoutMarkers).withoutMarkers) : IgnoresMarkers fun s => f (g s) := by
  intro s
  show resultWithoutMarkers (f (g s)) = resultWithoutMarkers (f (g s.withoutMarkers))
  rw [hf (g s), hf (g s.withoutMarkers), hg]

theorem resultWithoutMarkers_andThen {f : State → Result} (hf : IgnoresMarkers f) (o : Result) :
    resultWithoutMarkers (andThen o f) = resultWithoutMarkers (andThen (resultWithoutMarkers o) f) := by
  cases o with
  | next s => exact hf s
  | fault r => rfl
  | refused r => rfl

theorem IgnoresMarkers.andThen {f g : State → Result} (hf : IgnoresMarkers f) (hg : IgnoresMarkers g) :
    IgnoresMarkers fun s => andThen (f s) g := by
  intro s
  show resultWithoutMarkers (Machine.andThen (f s) g) = resultWithoutMarkers (Machine.andThen (f s.withoutMarkers) g)
  rw [resultWithoutMarkers_andThen hg, hf s, ← resultWithoutMarkers_andThen hg]

section
variable (b : Bit) (n : Sample)

/-! ### The handlers -/

theorem ignoresMarkers_execIdle : IgnoresMarkers (execIdle b n) := by
  cases b <;> exact fun _ => rfl

theorem ignoresMarkers_execIdentifierIde : IgnoresMarkers (execIdentifierIde b n) := by
  cases b <;> exact fun _ => rfl

theorem ignoresMarkers_execExtIdentifierR1 : IgnoresMarkers (execExtIdentifierR1 b n) := by
  cases b <;> exact fun _ => rfl

theorem ignoresMarkers_execControlR0 : IgnoresMarkers (execControlR0 b n) := by
  cases b <;> exact fun _ => rfl

theorem ignoresMarkers_execData : IgnoresMarkers (execData b n) :=
  .ite (fun _ => Iff.rfl)
    (.ite (fun _ => Iff.rfl) (fun _ => rfl) (.ite (fun _ => Iff.rfl) (fun _ => rfl) fun _ => rfl))
    fun _ => rfl

theorem ignoresMarkers_execCrc15Last : IgnoresMarkers (execCrc15Last b n) :=
  .ite (fun _ => Iff.rfl) (fun _ => rfl) fun _ => rfl

theorem ignoresMarkers_execCrcDelimiter : IgnoresMarkers (execCrcDelimiter b n) := by
  cases b <;> exact fun _ => rfl

theorem ignoresMarkers_execAckDelimiter : IgnoresMarkers (execAckDelimiter b n) := by
  cases b <;> exact fun _ => rfl

theorem ignoresMarkers_execEndOfFrame : IgnoresMarkers (execEndOfFrame b n) := by
  cases b with
  | true => exact .ite (fun _ => Iff.rfl) (fun _ => rfl) fun _ => rfl
  | false => exact fun _ => rfl

theorem ignoresMarkers_execIntermission : IgnoresMarkers (execIntermission b n) := by
  cases b with
  | true => exact .ite (fun _ => Iff.rfl) (fun _ => rfl) fun _ => rfl
  | false => exact fun _ => rfl

theorem trackRaw_withoutMarkers (s : State) : trackRaw b s.withoutMarkers = (trackRaw b s).withoutMarkers := by
  rw [trackRaw_eq, trackRaw_eq b s, trackRaw_runLength, trackRaw_runLength]
  rfl

theorem runLength_withoutMarkers (s : State) : s.withoutMarkers.runLength = s.runLength := rfl

theorem ignoresMarkers_execDecoderError : IgnoresMarkers (execDecoderError b n) := by
  intro s
  rw [execDecoderError_eq, execDecoderError_eq, trackRaw_withoutMarkers, runLength_withoutMarkers]
  split_ifs <;> rfl

/-- The rows of the format STATE_HANDLER. -/
def isHandler : Instr → Bool
  | .nop _ | .reset _ | .config _ _ _ _ | .seg _ _ _ | .reservedOp _ _
  | .dsErrorbit _ _ | .dsInactive _ _ | .dsStuffBit _ _ | .dsViolation _ _ | .dsSame _ _ | .dsChange _ _ => false
  | _ => true

theorem isHandler_of_decodeHandler {code : BitVec 4} {index : BitVec 7} {i : Instr}
    (h : decodeHandler code index b n = .ok i) : isHandler i = true := by
  unfold decodeHandler at h
  dsimp only at h
  split at h
  case h_12 => cases h; rfl
  case h_13 => cases h; rfl
  all_goals split_ifs at h <;> cases h <;> rfl

theorem ignoresMarkers_handler {i : Instr} (hi : isHandler i = true) : IgnoresMarkers (exec i) := by
  cases i with
  | idle b n => exact ignoresMarkers_execIdle b n
  | identifierId b n => exact fun _ => rfl
  | identifierRtr b n => exact fun _ => rfl
  | identifierIde b n => exact ignoresMarkers_execIdentifierIde b n
  | extIdentifierId b n => exact fun _ => rfl
  | extIdentifierRtr b n => exact fun _ => rfl
  | extIdentifierR1 b n => exact ignoresMarkers_execExtIdentifierR1 b n
  | controlR0 b n => exact ignoresMarkers_execControlR0 b n
  | controlDlc b n => exact fun _ => rfl
  | controlDlcLast b n => exact fun _ => rfl
  | data b n => exact ignoresMarkers_execData b n
  | crc15Bits b n => exact fun _ => rfl
  | crc15Last b n => exact ignoresMarkers_execCrc15Last b n
  | crcDelimiter b n => exact ignoresMarkers_execCrcDelimiter b n
  | ackSlot b n => exact fun _ => rfl
  | ackDelimiter b n => exact ignoresMarkers_execAckDelimiter b n
  | endOfFrame b n => exact ignoresMarkers_execEndOfFrame b n
  | intermission b n => exact ignoresMarkers_execIntermission b n
  | decoderError b n => exact ignoresMarkers_execDecoderError b n
  | stateUnreachable11 b n => exact fun _ => rfl
  | stateUnreachable12To15 c b n => exact fun _ => rfl
  | _ => cases hi

/-- The position, which selects the handler, does not lie on the MRK port. -/
theorem ignoresMarkers_runHandler : IgnoresMarkers (runHandler b n) := by
  intro s
  cases hdecode : decodeHandler s.state.code s.fieldBitIndex b n with
  | ok i =>
    rw [runHandler_of_decode hdecode, runHandler_of_decode (s := s.withoutMarkers) hdecode]
    exact ignoresMarkers_handler (isHandler_of_decodeHandler b n hdecode) s
  | error e =>
    rw [runHandler_of_decode_error hdecode, runHandler_of_decode_error (s := s.withoutMarkers) hdecode]
    rfl

theorem ignoresMarkers_forward : IgnoresMarkers (forward b n) := by
  refine (ignoresMarkers_runHandler b n).comp fun s => ?_
  unfold feedForward
  by_cases hfed : crcIsFed s.state = true
  · rw [if_pos hfed, if_pos (show crcIsFed s.withoutMarkers.state = true from hfed)]
    rfl
  · rw [if_neg hfed, if_neg (show ¬ crcIsFed s.withoutMarkers.state = true from hfed)]
    rfl

/-! ### BitEvents and commands -/

theorem ignoresMarkers_processBitEvent : IgnoresMarkers (processBitEvent b n) :=
  .ite (fun _ => Iff.rfl) (ignoresMarkers_execDecoderError b n)
    (.ite (fun _ => Iff.rfl) (ignoresMarkers_forward b n)
      (.ite (fun _ => Iff.rfl) (fun _ => rfl)
        (.ite (fun _ => Iff.rfl) (fun _ => rfl)
          (.ite (fun _ => Iff.rfl) ((ignoresMarkers_forward b n).comp fun _ => rfl)
            ((ignoresMarkers_forward b n).comp fun _ => rfl)))))

theorem ignoresMarkers_processBitEvents (events : List (Bit × Sample)) : IgnoresMarkers (processBitEvents events) := by
  induction events with
  | nil => exact fun _ => rfl
  | cons e rest ih =>
    obtain ⟨b, n⟩ := e
    exact (ignoresMarkers_processBitEvent b n).andThen ih

theorem ignoresMarkers_extract (l : Level) (a e : Sample) : IgnoresMarkers (extract l a e) :=
  .ite (fun _ => Iff.rfl) (fun _ => rfl)
    (.ite (fun _ => Iff.rfl) (fun _ => rfl) fun s =>
      (ignoresMarkers_processBitEvents (segmentEvents (bitValue l s.cfgInverted) a e s.samplesPerBit)).comp
        (g := fun s => { s with armed := true }) (fun _ => rfl) s)

/-- A command behind the FAULT guard. -/
theorem IgnoresMarkers.unlessFault {f : State → Result} (hf : IgnoresMarkers f) :
    IgnoresMarkers fun s => unlessFault s (f s) :=
  .ite (fun _ => Iff.rfl) (fun _ => rfl) hf

theorem ignoresMarkers_exec (i : Instr) : IgnoresMarkers (exec i) := by
  cases i with
  | nop p => exact .unlessFault fun _ => rfl
  | reset p => exact fun _ => rfl
  | config z v r f =>
    exact .unlessFault (.ite (fun _ => Iff.rfl) (fun _ => rfl)
      (.ite (fun _ => Iff.rfl) (fun _ => rfl) (.ite (fun _ => Iff.rfl) (fun _ => rfl) fun _ => rfl)))
  | seg l a e =>
    exact .unlessFault (.ite (fun _ => Iff.rfl) (fun _ => rfl)
      (.ite (fun _ => Iff.rfl) (fun _ => rfl) (ignoresMarkers_extract l a e)))
  | reservedOp op p => exact .unlessFault fun _ => rfl
  | dsErrorbit b n => exact ignoresMarkers_execDecoderError b n
  | dsInactive b n => exact ignoresMarkers_forward b n
  | dsStuffBit b n => exact fun _ => rfl
  | dsViolation b n => exact fun _ => rfl
  | dsSame b n => exact (ignoresMarkers_forward b n).comp fun _ => rfl
  | dsChange b n => exact (ignoresMarkers_forward b n).comp fun _ => rfl
  | _ => exact ignoresMarkers_handler rfl

end

/-- Settles O52: both states are the same without markers. -/
theorem markersAreAdvisory : Obligations.MarkersAreAdvisory := by
  unfold Obligations.MarkersAreAdvisory
  exact fun i s h m => (ignoresMarkers_exec i { s with mrkOut := m, hasMarkers := h }).trans (ignoresMarkers_exec i s).symm

end Sys2Proof.Machine

namespace Sys2Proof.Machine

/-! ## Recovery and the way back to IDLE (R150, R245 to R248) -/

section
variable {b : Bit} {n : Sample} {s t u : State}

/-- In DECODER_ERROR every bit goes to `ErrorBit` (R160). -/
theorem processBitEvent_decoderError (hst : s.state = .decoderError) (b : Bit) (n : Sample) :
    processBitEvent b n s = execDecoderError b n s := by
  rw [processBitEvent_eq_exec_destuffCase, destuffCase, if_pos hst]
  rfl

/-! ### A dominant level -/

/-- The markers of a dominant level in recovery, one for each bit (R245). -/
def State.markersOfDominant (s : State) (samples : List Sample) : List Marker :=
  if s.hasMarkers then s.mrkOut ++ samples.map (fun n => ⟨.error, false, n⟩) else s.mrkOut

/-- `t` is `s` after a dominant level: only the tracker and the markers moved. -/
def State.DominantTo (s : State) (samples : List Sample) (t : State) : Prop :=
  t = { s with lastBit := false, runLength := t.runLength, mrkOut := s.markersOfDominant samples }

/-- One dominant bit in recovery. -/
theorem processBitEvent_dominant (hst : s.state = .decoderError) (n : Sample) :
    ∃ t, processBitEvent false n s = .next t ∧ s.DominantTo [n] t ∧
      t.runLength.toNat = if s.lastBit = false then min (s.runLength.toNat + 1) 15 else 1 := by
  refine ⟨emitMrk .error false n (trackRaw false s), ?_, ?_, ?_⟩
  · rw [processBitEvent_decoderError hst, execDecoderError_eq, if_neg (by simp)]
  · rw [State.DominantTo, trackRaw_eq]
    rfl
  · rw [emitMrk_runLength, toNat_trackRaw_runLength]
    simp only [eq_comm]

theorem markersOfDominant_cons (h : s.DominantTo [n] t) (rest : List Sample) :
    t.markersOfDominant rest = s.markersOfDominant (n :: rest) := by
  rw [h]
  by_cases hmarkers : s.hasMarkers = true <;> simp [State.markersOfDominant, hmarkers]

theorem State.DominantTo.cons {rest : List Sample} (h : s.DominantTo [n] t) (hrest : t.DominantTo rest u) :
    s.DominantTo (n :: rest) u := by
  rw [State.DominantTo, markersOfDominant_cons h] at hrest
  rw [State.DominantTo, hrest, h]

/-- Once the last bit is dominant every further one is counted up to saturation (R36). -/
theorem processBitEvents_dominant (samples : List Sample) (hst : s.state = .decoderError) (hlast : s.lastBit = false) :
    ∃ t, processBitEvents (samples.map fun n => (false, n)) s = .next t ∧ s.DominantTo samples t ∧
      t.runLength.toNat = min (s.runLength.toNat + samples.length) 15 := by
  induction samples generalizing s with
  | nil =>
    have hrun := s.runLength.isLt
    refine ⟨s, rfl, ?_, ?_⟩
    · simp [State.DominantTo, State.markersOfDominant, ← hlast]
    · simp only [List.length_nil]
      omega
  | cons n rest ih =>
    obtain ⟨u, hu, huto, hurun⟩ := processBitEvent_dominant hst n
    have hust : u.state = .decoderError := by rw [huto]; exact hst
    have hulast : u.lastBit = false := by rw [huto]
    obtain ⟨t, ht, htto, htrun⟩ := ih hust hulast
    refine ⟨t, ?_, huto.cons htto, ?_⟩
    · rw [List.map_cons, processBitEvents_cons, hu, andThen_next, ht]
    · rw [htrun, hurun, if_pos hlast, List.length_cons]
      omega

/-- Settles O54: the first dominant bit, then the others with the tracker on a dominant run. -/
theorem dominantLevelKeepsRecovering : Obligations.DominantLevelKeepsRecovering := by
  unfold Obligations.DominantLevelKeepsRecovering
  intro samples s hst hne
  obtain ⟨n, rest, rfl⟩ := List.exists_cons_of_ne_nil hne
  obtain ⟨u, hu, huto, hurun⟩ := processBitEvent_dominant hst n
  have hust : u.state = .decoderError := by rw [huto]; exact hst
  have hulast : u.lastBit = false := by rw [huto]
  obtain ⟨t, ht, htto, htrun⟩ := processBitEvents_dominant rest hust hulast
  refine ⟨t, ?_, huto.cons htto, fun hlen => BitVec.eq_of_toNat_eq ?_⟩
  · rw [List.map_cons, processBitEvents_cons, hu, andThen_next, ht]
  · have hone : 1 ≤ u.runLength.toNat := by rw [hurun]; split_ifs <;> omega
    rw [List.length_cons] at hlen
    have hfifteen : (15 : BitVec 4).toNat = 15 := rfl
    omega

/-! ### Recessive bits in recovery -/

/-- The run of recessive bits that recovery has seen. -/
def State.recessiveRun (s : State) : Nat := if s.lastBit = true then s.runLength.toNat else 0

/-- A recessive bit in recovery counts on, or is the eleventh and ends it (R246). -/
theorem processBitEvent_recessive (hst : s.state = .decoderError) (hrun : s.recessiveRun ≤ 10) (n : Sample) :
    (s.recessiveRun < 10 ∧ ∃ t, processBitEvent true n s = .next t ∧ t.state = .decoderError ∧
      t.recessiveRun = s.recessiveRun + 1 ∧ t.errStartSample = s.errStartSample ∧ t.recOut = s.recOut) ∨
    (s.recessiveRun = 10 ∧ processBitEvent true n s = .next (recoveryExit n (emitMrk .error true n s))) := by
  have htracked : (trackRaw true s).runLength.toNat = s.recessiveRun + 1 := by
    rw [toNat_trackRaw_runLength, State.recessiveRun]
    rw [State.recessiveRun] at hrun
    cases hlast : s.lastBit with
    | true =>
      rw [hlast, if_pos rfl] at hrun
      simp only [if_true]
      omega
    | false => rfl
  rw [processBitEvent_decoderError hst, execDecoderError_eq, htracked]
  rcases Nat.lt_or_eq_of_le hrun with hlt | heq
  · exact .inl ⟨hlt, _, if_neg (by omega), by simp [hst], (if_pos (trackRaw_lastBit true s)).trans htracked, by simp,
      by simp⟩
  · exact .inr ⟨heq, if_pos ⟨rfl, by omega⟩⟩

theorem State.DecoderInv.recessiveRun_le (h : s.DecoderInv) (hst : s.state = .decoderError) : s.recessiveRun ≤ 10 := by
  rw [State.recessiveRun]
  split_ifs with hlast
  · exact h.recovery hst hlast
  · exact Nat.zero_le _

/-- The BitEvents of a recessive level. -/
def recessiveBits (samples : List Sample) : List (Bit × Sample) := samples.map fun n => (true, n)

theorem State.Idle.processBitEvents_recessiveBits (h : s.Idle) (samples : List Sample) :
    processBitEvents (recessiveBits samples) s = .next s :=
  h.processBitEvents_recessive _ (by simp [recessiveBits])

theorem idle_recoveryExit (n : Sample) (s : State) : (recoveryExit n s).Idle := ⟨rfl, rfl, rfl⟩

/-- `t` is IDLE again after recovery from `s`, with one summary record that ends at one of the samples (R246). -/
structure State.RecoversTo (s : State) (samples : List Sample) (t : State) : Prop where
  state : t.state = .idle
  record : ∃ r, t.recOut = s.recOut ++ [r] ∧ r.kind = .decodeError ∧ r.first = s.errStartSample ∧ r.last ∈ samples

/-- Recessive bits that complete a run of eleven end recovery; those after it change nothing. -/
theorem processBitEvents_recover (samples : List Sample) (hst : s.state = .decoderError) (hrun : s.recessiveRun ≤ 10)
    (hlen : 11 ≤ s.recessiveRun + samples.length) :
    ∃ t, processBitEvents (recessiveBits samples) s = .next t ∧ s.RecoversTo samples t := by
  induction samples generalizing s with
  | nil =>
    rw [List.length_nil] at hlen
    omega
  | cons n rest ih =>
    rw [List.length_cons] at hlen
    rcases processBitEvent_recessive hst hrun n with ⟨hlt, u, hu, hust, hurun, hustart, hurec⟩ | ⟨-, hexit⟩
    · obtain ⟨t, ht, htidle, r, hr, hkind, hfirst, hmem⟩ := ih hust (by omega) (by omega)
      refine ⟨t, ?_, htidle, r, hurec ▸ hr, hkind, hustart ▸ hfirst, List.mem_cons_of_mem n hmem⟩
      rw [recessiveBits, List.map_cons, processBitEvents_cons, hu, andThen_next]
      exact ht
    · refine ⟨recoveryExit n (emitMrk .error true n s), ?_, rfl, ⟨.decodeError, 0, 0, s.errStartSample, n⟩, rfl, rfl, rfl,
        List.mem_cons_self⟩
      rw [recessiveBits, List.map_cons, processBitEvents_cons, hexit, andThen_next]
      exact (idle_recoveryExit n _).processBitEvents_recessiveBits rest

/-- Settles O55. -/
theorem elevenRecessiveBitsEndRecovery : Obligations.ElevenRecessiveBitsEndRecovery := by
  unfold Obligations.ElevenRecessiveBitsEndRecovery
  intro samples s h hst hlen
  obtain ⟨t, ht, hidle, hrecord⟩ :=
    processBitEvents_recover samples hst (h.decoder.recessiveRun_le hst) (by omega)
  exact ⟨t, ht, hidle, hrecord⟩

/-! ### Recessive bits anywhere

`State.bitsToIdle` bounds the recessive bits it takes to IDLE. In the stuffed region they are counted by the run: at most
five are forwarded before the sixth identical one is a violation, and the CRC delimiter may be the last of the five. -/

/-- At most this many recessive bits lead to IDLE. -/
def State.bitsToIdle (s : State) : Nat :=
  match s.state with
  | .idle => 0
  | .intermission => 3 - s.fieldBitIndex.toNat
  | .endOfFrame => 10 - s.fieldBitIndex.toNat
  | .ack => 12 - s.fieldBitIndex.toNat
  | .decoderError => 11 - s.recessiveRun
  | _ => 17 - s.recessiveRun

/-! Where these equations are used on what a handler answers, `by exact` lets the goal, not the hypothesis, say which state is
meant. -/

theorem bitsToIdle_idle (hst : s.state = .idle) : s.bitsToIdle = 0 := by
  rw [State.bitsToIdle, hst]

theorem bitsToIdle_intermission (hst : s.state = .intermission) {i : Nat} (hi : s.fieldBitIndex.toNat = i) :
    s.bitsToIdle = 3 - i := by
  rw [State.bitsToIdle, hst, ← hi]

theorem bitsToIdle_endOfFrame (hst : s.state = .endOfFrame) {i : Nat} (hi : s.fieldBitIndex.toNat = i) :
    s.bitsToIdle = 10 - i := by
  rw [State.bitsToIdle, hst, ← hi]

theorem bitsToIdle_ack (hst : s.state = .ack) {i : Nat} (hi : s.fieldBitIndex.toNat = i) : s.bitsToIdle = 12 - i := by
  rw [State.bitsToIdle, hst, ← hi]

theorem bitsToIdle_decoderError (hst : s.state = .decoderError) {run : Nat} (hrun : s.recessiveRun = run) :
    s.bitsToIdle = 11 - run := by
  rw [State.bitsToIdle, hst, ← hrun]

theorem bitsToIdle_stuffedRegion (hst : stuffedRegion s.state = true) {run : Nat} (hrun : s.recessiveRun = run) :
    s.bitsToIdle = 17 - run := by
  rw [← hrun]
  cases hx : s.state <;> simp [hx, stuffedRegion, State.bitsToIdle] at hst ⊢

theorem bitsToIdle_le_seventeen (s : State) : s.bitsToIdle ≤ 17 := by
  cases hx : s.state <;> simp only [State.bitsToIdle, hx] <;> omega

/-- Where a recessive bit that was forwarded in the stuffed region leads: it stays there, with the tracker as the De-stuffer
left it, is a violation, or is the CRC delimiter. -/
def State.ForwardedTo (u t : State) : Prop :=
  ((stuffedRegion t.state = true ∨ t.state = .decoderError) ∧ t.recessiveRun = u.recessiveRun) ∨
    (t.state = .ack ∧ t.fieldBitIndex = 0)

theorem forwardedTo_runHandler (hpos : u.PositionLegal) (hregion : stuffedRegion u.state = true) :
    Completes u.ForwardedTo (runHandler true n u) := by
  obtain ⟨i, hrow⟩ := hpos.exists_row
  rw [hrow.runHandler_eq]
  cases hrow with
  | identifierId => exact ⟨_, exec_identifierId true n u, .inl ⟨.inl hregion, rfl⟩⟩
  | identifierRtr => exact ⟨_, exec_identifierRtr true n u, .inl ⟨.inl hregion, rfl⟩⟩
  | identifierIde => exact ⟨_, exec_identifierIde_recessive n u, .inl ⟨.inl rfl, rfl⟩⟩
  | extIdentifierId => exact ⟨_, exec_extIdentifierId true n u, .inl ⟨.inl hregion, rfl⟩⟩
  | extIdentifierRtr => exact ⟨_, exec_extIdentifierRtr true n u, .inl ⟨.inl hregion, rfl⟩⟩
  | extIdentifierR1 => exact ⟨_, exec_extIdentifierR1_recessive n u, .inl ⟨.inr rfl, rfl⟩⟩
  | controlR0 => exact ⟨_, exec_controlR0_recessive n u, .inl ⟨.inl hregion, rfl⟩⟩
  | controlDlc => exact ⟨_, exec_controlDlc true n u, .inl ⟨.inl hregion, rfl⟩⟩
  | controlDlcLast =>
    refine ⟨_, exec_controlDlcLast true n u, .inl ⟨.inl ?_, rfl⟩⟩
    split_ifs <;> rfl
  | data _ hdata =>
    rcases bitInByte_lt_or_eq u.fieldBitIndex with hwithin | hend
    · exact ⟨_, exec_data_within true n u hdata hwithin, .inl ⟨.inl hregion, rfl⟩⟩
    by_cases hlast : (byteIndex u.fieldBitIndex).val + 1 = u.dataLen.toNat
    · exact ⟨_, exec_data_last true n u hdata hend hlast, .inl ⟨.inl rfl, rfl⟩⟩
    · exact ⟨_, exec_data_byte true n u hdata hend hlast, .inl ⟨.inl hregion, rfl⟩⟩
  | crc15Bits => exact ⟨_, exec_crc15Bits true n u, .inl ⟨.inl hregion, rfl⟩⟩
  | crc15Last =>
    by_cases hcrc : u.crc = 0
    · exact ⟨_, exec_crc15Last_of_zero true n u hcrc, .inl ⟨.inl rfl, rfl⟩⟩
    · exact ⟨_, exec_crc15Last_of_ne_zero true n u hcrc, .inl ⟨.inr rfl, rfl⟩⟩
  | crcDelimiter => exact ⟨_, exec_crcDelimiter_recessive n u, .inr ⟨rfl, rfl⟩⟩
  | idle hst => simp [hst, stuffedRegion] at hregion
  | ackSlot hst => simp [hst, stuffedRegion] at hregion
  | ackDelimiter hst => simp [hst, stuffedRegion] at hregion
  | endOfFrame hst => simp [hst, stuffedRegion] at hregion
  | intermission hst => simp [hst, stuffedRegion] at hregion
  | decoderError hst => simp [hst, stuffedRegion] at hregion

theorem State.ForwardedTo.bitsToIdle_le (h : u.ForwardedTo t) (hrun : u.recessiveRun ≤ 5) :
    t.bitsToIdle ≤ 17 - u.recessiveRun := by
  rcases h with ⟨hregion | herr, hsame⟩ | ⟨hack, hindex⟩
  · exact (bitsToIdle_stuffedRegion hregion hsame).le
  · exact (bitsToIdle_decoderError herr hsame).trans_le (by omega)
  · exact (bitsToIdle_ack hack (congrArg BitVec.toNat hindex)).trans_le (show 12 ≤ _ by omega)

theorem recessiveRun_feedForward (b : Bit) (s : State) : (feedForward b s).recessiveRun = s.recessiveRun := by
  simp [State.recessiveRun]

/-- A recessive bit forwarded in the stuffed region, the tracker already raised to a run of at most five. -/
theorem forward_recessive_stuffedRegion (hpos : s.PositionLegal) (hregion : stuffedRegion s.state = true)
    (hrun : s.recessiveRun ≤ 5) : Completes (fun t => t.bitsToIdle ≤ 17 - s.recessiveRun) (forward true n s) := by
  have hfed := forwardedTo_runHandler (n := n) (u := feedForward true s) (by simpa [State.PositionLegal] using hpos)
    (by simpa using hregion)
  refine hfed.mono fun t ht => ?_
  have hle := ht.bitsToIdle_le (by rwa [recessiveRun_feedForward])
  rwa [recessiveRun_feedForward] at hle

/-- Below a run of five a recessive bit raises the recessive run by one. -/
theorem recessiveRun_trackRaw (hrun : s.runLength.toNat ≤ 14) :
    (trackRaw true s).recessiveRun = s.recessiveRun + 1 := by
  rw [State.recessiveRun, if_pos (trackRaw_lastBit true s), trackRaw_runLength_toNat hrun, State.recessiveRun]
  cases s.lastBit <;> rfl

/-- A recessive bit in the stuffed region, by the run: removed, a violation, or forwarded. -/
theorem bitsToIdle_stuffedRegion_lt (h : s.DecoderInv) (hregion : stuffedRegion s.state = true) (n : Sample) :
    Completes (fun t => t.bitsToIdle < s.bitsToIdle) (processBitEvent true n s) := by
  have hactive : s.destuffActive = true := h.destuff.trans hregion
  have hdestuffing : s.Destuffing := ⟨fun herr => by simp [herr, stuffedRegion] at hregion, hactive⟩
  have hfive := (h.tracker hactive).2
  by_cases hrun : s.runLength = 5
  · rw [processBitEvent_eq_exec_destuffCase]
    cases hlast : s.lastBit with
    | false =>
      have hrecessive : s.recessiveRun = 0 := if_neg (by simp [hlast])
      rw [destuffCase_eq_dsStuffBit hdestuffing hrun (by simp [hlast]), bitsToIdle_stuffedRegion hregion hrecessive]
      exact ⟨_, exec_dsStuffBit true n s,
        lt_of_eq_of_lt (bitsToIdle_stuffedRegion (by exact hregion) rfl) (show 16 < 17 by decide)⟩
    | true =>
      have hrecessive : s.recessiveRun = 5 := (if_pos hlast).trans (congrArg BitVec.toNat hrun)
      have hviolated : ({ s with runLength := 6 } : State).recessiveRun = 6 := if_pos hlast
      rw [destuffCase_eq_dsViolation hdestuffing hrun (by simp [hlast]), bitsToIdle_stuffedRegion hregion hrecessive]
      exact ⟨_, exec_dsViolation true n s, lt_of_eq_of_lt (bitsToIdle_decoderError rfl hviolated) (by decide)⟩
  · have hne : s.runLength.toNat ≠ 5 := fun h5 => hrun (BitVec.eq_of_toNat_eq h5)
    have hrecessive : s.recessiveRun ≤ s.runLength.toNat := by rw [State.recessiveRun]; split_ifs <;> omega
    have htracked := recessiveRun_trackRaw (s := s) (by omega)
    rw [processBitEvent_of_short hdestuffing (by omega), bitsToIdle_stuffedRegion hregion rfl]
    exact (forward_recessive_stuffedRegion (s := trackRaw true s) (by simpa [State.PositionLegal] using h.position)
      (by simpa using hregion) (by omega)).mono fun t ht => ht.trans_lt (by omega)

/-- Past the stuffed region and outside recovery the De-stuffer forwards every bit (R161). -/
theorem processBitEvent_of_inactive (h : s.DecoderInv) (herr : s.state ≠ .decoderError)
    (hregion : stuffedRegion s.state = false) (b : Bit) (n : Sample) : processBitEvent b n s = forward b n s := by
  rw [processBitEvent_eq_exec_destuffCase, destuffCase_eq_dsInactive herr (h.destuff.trans hregion), exec_dsInactive]

theorem bitsToIdle_ack_lt (h : s.DecoderInv) (hst : s.state = .ack) (n : Sample) :
    Completes (fun t => t.bitsToIdle < s.bitsToIdle) (processBitEvent true n s) := by
  have hindex : s.fieldBitIndex.toNat < 2 := by simpa [hst, FieldState.positions] using h.position.1
  have hfed : (feedForward true s).state = .ack := (feedForward_state true s).trans hst
  rw [processBitEvent_of_inactive h (by simp [hst]) (by rw [hst]; rfl)]
  rcases (by omega : s.fieldBitIndex.toNat = 0 ∨ s.fieldBitIndex.toNat = 1) with hi | hi
  · rw [forward_eq_exec hst selects_ackSlot hi.ge hi.le, bitsToIdle_ack hst hi]
    exact ⟨_, exec_ackSlot true n _, lt_of_eq_of_lt (bitsToIdle_ack (by exact hfed) rfl) (show 11 < 12 by decide)⟩
  · rw [forward_eq_exec hst selects_ackDelimiter hi.ge hi.le, bitsToIdle_ack hst hi]
    exact ⟨_, exec_ackDelimiter_recessive n _,
      lt_of_eq_of_lt (bitsToIdle_endOfFrame rfl rfl) (show 10 < 11 by decide)⟩

/-- The index after a bit that stays in its state, the CRC engine fed or not. -/
theorem feedForward_index_add_one (hi : s.fieldBitIndex.toNat ≤ 126) :
    ((feedForward b s).fieldBitIndex + 1).toNat = s.fieldBitIndex.toNat + 1 := by
  rw [feedForward_fieldBitIndex, index_add_one hi]

theorem bitsToIdle_endOfFrame_lt (h : s.DecoderInv) (hst : s.state = .endOfFrame) (n : Sample) :
    Completes (fun t => t.bitsToIdle < s.bitsToIdle) (processBitEvent true n s) := by
  have hindex : s.fieldBitIndex.toNat < 7 := by simpa [hst, FieldState.positions] using h.position.1
  have hfed : (feedForward true s).state = .endOfFrame := (feedForward_state true s).trans hst
  rw [processBitEvent_of_inactive h (by simp [hst]) (by rw [hst]; rfl), bitsToIdle_endOfFrame hst rfl,
    forward_eq_exec hst selects_endOfFrame (Nat.zero_le _) (by omega)]
  rcases (by omega : s.fieldBitIndex.toNat < 6 ∨ s.fieldBitIndex.toNat = 6) with hi | hi
  · exact ⟨_, exec_endOfFrame_stay n _ (by rwa [feedForward_fieldBitIndex]),
      lt_of_eq_of_lt (bitsToIdle_endOfFrame (i := s.fieldBitIndex.toNat + 1) (by exact hfed)
        (by exact feedForward_index_add_one (by omega))) (by omega)⟩
  · exact ⟨_, exec_endOfFrame_last n _ (by rwa [feedForward_fieldBitIndex]),
      lt_of_eq_of_lt (bitsToIdle_intermission rfl rfl) (show 3 < _ by omega)⟩

theorem bitsToIdle_intermission_lt (h : s.DecoderInv) (hst : s.state = .intermission) (n : Sample) :
    Completes (fun t => t.bitsToIdle < s.bitsToIdle) (processBitEvent true n s) := by
  have hindex : s.fieldBitIndex.toNat < 3 := by simpa [hst, FieldState.positions] using h.position.1
  have hfed : (feedForward true s).state = .intermission := (feedForward_state true s).trans hst
  rw [processBitEvent_of_inactive h (by simp [hst]) (by rw [hst]; rfl), bitsToIdle_intermission hst rfl,
    forward_eq_exec hst selects_intermission (Nat.zero_le _) (by omega)]
  rcases (by omega : s.fieldBitIndex.toNat < 2 ∨ s.fieldBitIndex.toNat = 2) with hi | hi
  · exact ⟨_, exec_intermission_stay n _ (by rwa [feedForward_fieldBitIndex]),
      lt_of_eq_of_lt (bitsToIdle_intermission (i := s.fieldBitIndex.toNat + 1) (by exact hfed)
        (by exact feedForward_index_add_one (by omega))) (by omega)⟩
  · exact ⟨_, exec_intermission_last n _ (by rwa [feedForward_fieldBitIndex]),
      lt_of_eq_of_lt (bitsToIdle_idle rfl) (by omega)⟩

theorem bitsToIdle_decoderError_lt (h : s.DecoderInv) (hst : s.state = .decoderError) (n : Sample) :
    Completes (fun t => t.bitsToIdle < s.bitsToIdle) (processBitEvent true n s) := by
  rw [bitsToIdle_decoderError hst rfl]
  rcases processBitEvent_recessive hst (h.recessiveRun_le hst) n with ⟨hlt, t, ht, htst, htrun, -⟩ | ⟨hten, hexit⟩
  · exact ⟨t, ht, lt_of_eq_of_lt (bitsToIdle_decoderError htst htrun) (by omega)⟩
  · exact ⟨_, hexit, lt_of_eq_of_lt (bitsToIdle_idle rfl) (by omega)⟩

/-- Outside IDLE every recessive bit brings it nearer. -/
theorem bitsToIdle_lt (h : s.DecoderInv) (hidle : s.state ≠ .idle) (n : Sample) :
    Completes (fun t => t.bitsToIdle < s.bitsToIdle) (processBitEvent true n s) := by
  by_cases hregion : stuffedRegion s.state = true
  · exact bitsToIdle_stuffedRegion_lt h hregion n
  have hpos := h.position.1
  cases hst : s.state <;> rw [hst] at hregion hpos
  case ack => exact bitsToIdle_ack_lt h hst n
  case endOfFrame => exact bitsToIdle_endOfFrame_lt h hst n
  case intermission => exact bitsToIdle_intermission_lt h hst n
  case decoderError => exact bitsToIdle_decoderError_lt h hst n
  case idle => exact absurd hst hidle
  case identifier => exact absurd rfl hregion
  case extIdentifier => exact absurd rfl hregion
  case control => exact absurd rfl hregion
  case data => exact absurd rfl hregion
  case crc15 => exact absurd rfl hregion
  case crcDelimiter => exact absurd rfl hregion
  all_goals exact absurd hpos (Nat.not_lt_zero _)

/-- In IDLE the De-stuffer is inactive at index 0. -/
theorem State.DecoderInv.idle (h : s.DecoderInv) (hst : s.state = .idle) : s.Idle where
  state := hst
  index := by simpa [hst, FieldState.positions] using h.position.1
  inactive := h.destuff.trans (by rw [hst]; rfl)

/-- Enough recessive bits lead to IDLE, by induction on them: each brings IDLE nearer or finds it reached. -/
theorem processBitEvents_reach_idle (samples : List Sample) (h : s.DecoderInv) (hlen : s.bitsToIdle ≤ samples.length) :
    Completes State.Idle (processBitEvents (recessiveBits samples) s) := by
  induction samples generalizing s with
  | nil =>
    by_contra hnot
    have hne : s.state ≠ .idle := fun hst => hnot ⟨s, rfl, h.idle hst⟩
    obtain ⟨t, -, hlt⟩ := bitsToIdle_lt h hne 0
    rw [List.length_nil] at hlen
    omega
  | cons n rest ih =>
    by_cases hst : s.state = .idle
    · exact ⟨s, (h.idle hst).processBitEvents_recessiveBits _, h.idle hst⟩
    obtain ⟨u, hu, hlt⟩ := bitsToIdle_lt h hst n
    rw [List.length_cons] at hlen
    obtain ⟨t, ht, hidle⟩ := ih ((h.processBitEvent true n).of_next hu) (by omega)
    refine ⟨t, ?_, hidle⟩
    rw [recessiveBits, List.map_cons, processBitEvents_cons, hu, andThen_next]
    exact ht

/-- Settles O56: IDLE is at most seventeen recessive bits away, and in IDLE they change nothing. -/
theorem seventeenRecessiveBitsReachIdle : Obligations.SeventeenRecessiveBitsReachIdle := by
  unfold Obligations.SeventeenRecessiveBitsReachIdle
  intro samples s h hlen
  obtain ⟨t, ht, hidle⟩ :=
    processBitEvents_reach_idle samples h.decoder (hlen ▸ bitsToIdle_le_seventeen s)
  refine ⟨t, ht, hidle.state, fun more => ?_⟩
  rw [List.map_append]
  exact processBitEvents_append_eq_next ht (hidle.processBitEvents_recessiveBits more)

end

/-- Settles O59: what `processBitEvents_encode` says of the BitEvents of the encoded frame. -/
theorem encodedFrameIsDecodedExactly : Obligations.EncodedFrameIsDecodedExactly := by
  unfold Obligations.EncodedFrameIsDecodedExactly
  exact fun f S t0 s hf h hst => processBitEvents_encode hf (h.idle hst) (eventsOf_map_fst S t0 f.encode)

end Sys2Proof.Machine
